-- ==== Sys2Proof/Word.lean ====
section
/-! DEFINITION. The word types of the GD52: bytes on the line and in the store, and the 16- and 32-bit fields of frames,
slots and the image (spec 00 section 4.5, chapter 12). -/

namespace Sys2Proof

/-- One byte on the line, in a store slot or in the configuration image. -/
abbrev Byte := BitVec 8
/-- A 16-bit field: round ids, CRC-16. -/
abbrev Word16 := BitVec 16
/-- A 32-bit field: card numbers, the district clock. -/
abbrev Word32 := BitVec 32
/-- The index 0..3 of a container, its column and its reader channel (spec 00 section 4.2). -/
abbrev Col := Fin 4

end Sys2Proof
end

