-- ==== Sys2Proof/Syntax.lean ====
section
/-! DEFINITION. The commands the GD52 takes: one constructor per row of spec/opcode_table.json. The table gives no operands and
no bits; the operands are those the governing rules name. -/

namespace Sys2Proof

/-- Drum position input (Table 3-1 of 00). -/
inductive DrumLevel | closed | opened
deriving DecidableEq, Repr

/-- Lock sense input (Table 3-1 of 00). -/
inductive LockLevel | engaged | released
deriving DecidableEq, Repr

/-- Container-present input (Table 3-1 of 00). -/
inductive PresentLevel | present | absent
deriving DecidableEq, Repr

/-- The column input whose level settles, with the level (R1). -/
inductive InputLevel
  | drum (level : DrumLevel)
  | lock (level : LockLevel)
  | present (level : PresentLevel)
deriving DecidableEq, Repr

/-- A received frame that has passed checks 1 and 2 (R107), without its KIND, which the command's row gives: the header bytes
DEST, SRC and TAG, the payload of LEN bytes, and the margin class the receiver measured (R112). Its CRC is right by
construction; a frame with a wrong one is a `RawFrame`. -/
structure RxFrame where
  dest : Byte
  src : Byte
  tag : Byte
  payload : List Byte
  margin : Fin 8
deriving DecidableEq, Repr

/-- A frame as the line brought it: the bytes after the start byte (DEST, SRC, KIND, TAG, LEN, payload, CRC-16), whether any
byte had a framing error (R105), and the margin class. -/
structure RawFrame where
  bytes : List Byte
  framingError : Bool
  margin : Fin 8
deriving DecidableEq, Repr

/-- Activity on the line outside the part's own transmission (R105, R117): it begins (the line is busy while it lasts), it
ends, or one byte has been received, with or without an idle gap before it, its stop bit right or low. -/
inductive LineSignal
  | begins
  | ends
  | byte (value : Byte) (afterGap : Bool) (framingError : Bool)
deriving DecidableEq, Repr

/-- The commands. `after` is the time in microseconds since the command before (log entry 1); `c` is a column. The frame
commands carry the frame; those of QUERY's subjects carry as payload the arguments after the subject byte, which the row
itself gives; `queryBadSubject` carries the whole QUERY payload. -/
inductive Instr
  /-- POWER_ON (R183). -/
  | powerOn (after : Nat)
  /-- LOSS_OF_POWER (R63). -/
  | lossOfPower (after : Nat)
  /-- RESET_N_LOW (R183). -/
  | resetNLow (after : Nat)
  /-- RESET_N_HIGH (R183). -/
  | resetNHigh (after : Nat)
  /-- CONFIGURATION_IMAGE_READ (R184): the bytes the configuration memory answered, at most 192. -/
  | configurationImageRead (after : Nat) (image : List Byte)
  /-- STARTING_STORE_WORK (R187). -/
  | startingStoreWork (after : Nat)
  /-- INPUT_LEVEL_SETTLED (R1). -/
  | inputLevelSettled (after : Nat) (c : Col) (level : InputLevel)
  /-- CONTAINER_STATE_DERIVATION (R188). -/
  | containerStateDerivation (after : Nat)
  /-- DRUM_OPEN (R8). -/
  | drumOpen (after : Nat) (c : Col)
  /-- DRUM_CLOSED (R9). -/
  | drumClosed (after : Nat) (c : Col)
  /-- LOCK_SENSE_ENGAGED (R4, R6). -/
  | lockSenseEngaged (after : Nat) (c : Col)
  /-- LOCK_SENSE_RELEASED (R4). -/
  | lockSenseReleased (after : Nat) (c : Col)
  /-- CONTAINER_ABSENT (R13). -/
  | containerAbsent (after : Nat) (c : Col)
  /-- CONTAINER_PRESENT (R15). -/
  | containerPresent (after : Nat) (c : Col)
  /-- CONFIRMATION_TIMER_EXPIRY (R5). -/
  | confirmationTimerExpiry (after : Nat) (c : Col)
  /-- DRUM_HELD_EXPIRY (R10). -/
  | drumHeldExpiry (after : Nat) (c : Col)
  /-- LIFT_LIMIT_EXPIRY (R14). -/
  | liftLimitExpiry (after : Nat) (c : Col)
  /-- HOLD_TIMER_EXPIRY (R18). -/
  | holdTimerExpiry (after : Nat) (c : Col)
  /-- CARD_READ (R69): card number, issue, and whether the read status is FAULT. -/
  | cardRead (after : Nat) (c : Col) (card : Word32) (issue : Byte) (readFault : Bool)
  /-- REPEAT (R67). -/
  | repeatIndication (after : Nat) (c : Col)
  /-- READER_MESSAGE_DISCARDED (R67): the bytes the module sent. -/
  | readerMessageDiscarded (after : Nat) (c : Col) (bytes : List Byte)
  /-- INDICATION_SEND_COMPLETE (R68). -/
  | indicationSendComplete (after : Nat) (c : Col)
  /-- GRANT_REQUEST (R7, R75). -/
  | grantRequest (after : Nat) (c : Col)
  /-- WINDOW_TIMER_EXPIRY (R78). -/
  | windowTimerExpiry (after : Nat) (c : Col)
  /-- EU_PERIODIC_TIMER_EXPIRY (R24). -/
  | euPeriodicTimerExpiry (after : Nat) (c : Col)
  /-- SETTLE_TIMER_EXPIRY (R24). -/
  | settleTimerExpiry (after : Nat) (c : Col)
  /-- RETURN_TIMER_EXPIRY (R24). -/
  | returnTimerExpiry (after : Nat) (c : Col)
  /-- BURST_END (R28). -/
  | burstEnd (after : Nat)
  /-- BLANK_END (R29): whether the receive signal is above the threshold at that moment. -/
  | blankEnd (after : Nat) (above : Bool)
  /-- ECHO_RISE (R29): the echo time is the elapsed time of the measurement at the rise. -/
  | echoRise (after : Nat)
  /-- LISTEN_END (R29). -/
  | listenEnd (after : Nat)
  /-- TEMPERATURE_READ (R26): the degrees the line delivers, none when the read fails. -/
  | temperatureRead (after : Nat) (value : Option Int)
  /-- STORE_WRITE_COMPLETE (R61). -/
  | storeWriteComplete (after : Nat)
  /-- DIR_PUT (R52, R53). -/
  | dirPut (after : Nat) (f : RxFrame)
  /-- DIR_DROP (R54). -/
  | dirDrop (after : Nat) (f : RxFrame)
  /-- REVOKE_PUSH (R92). -/
  | revokePush (after : Nat) (f : RxFrame)
  /-- REVOKE_PULL (R99). -/
  | revokePull (after : Nat) (f : RxFrame)
  /-- REVOKE_GAP (R100). -/
  | revokeGap (after : Nat) (f : RxFrame)
  /-- PULL_HOLDOFF_EXPIRY (R97). -/
  | pullHoldoffExpiry (after : Nat)
  /-- PULL_OUTSTANDING_TIMEOUT (R98). -/
  | pullOutstandingTimeout (after : Nat)
  /-- TIME (R135). -/
  | timeFrame (after : Nat) (f : RxFrame)
  /-- BEACON (R129). -/
  | beacon (after : Nat) (f : RxFrame)
  /-- ROLLCALL (R141). -/
  | rollcall (after : Nat) (f : RxFrame)
  /-- CLAIM (R145). -/
  | claim (after : Nat) (f : RxFrame)
  /-- RELEASE (R149). -/
  | release (after : Nat) (f : RxFrame)
  /-- QUERY_ALARMS (R174). -/
  | queryAlarms (after : Nat) (f : RxFrame)
  /-- QUERY_COUNTERS (R175). -/
  | queryCounters (after : Nat) (f : RxFrame)
  /-- QUERY_CONTAINERS (R176). -/
  | queryContainers (after : Nat) (f : RxFrame)
  /-- QUERY_NEIGHBOURS (R177). -/
  | queryNeighbours (after : Nat) (f : RxFrame)
  /-- QUERY_STATUS (R178). -/
  | queryStatus (after : Nat) (f : RxFrame)
  /-- QUERY_DIR_GET (R179). -/
  | queryDirGet (after : Nat) (f : RxFrame)
  /-- QUERY_LOG (R161). -/
  | queryLog (after : Nat) (f : RxFrame)
  /-- QUERY_BAD_SUBJECT (R173). -/
  | queryBadSubject (after : Nat) (f : RxFrame)
  /-- SNAPSHOT (R180). -/
  | snapshot (after : Nat) (f : RxFrame)
  /-- RESTART (R181). -/
  | restart (after : Nat) (f : RxFrame)
  /-- FRAME_NOT_DISPATCHED (R107 to R109). -/
  | frameNotDispatched (after : Nat) (f : RawFrame)
  /-- LINE_ACTIVITY (R118, R105). -/
  | lineActivity (after : Nat) (signal : LineSignal)
  /-- CLASS_GAP_REACHED (R117). -/
  | classGapReached (after : Nat)
  /-- BACKOFF_SLOT_END (R118). -/
  | backoffSlotEnd (after : Nat)
  /-- COLLISION (R119). -/
  | collision (after : Nat)
  /-- TRANSMISSION_COMPLETE (R119). -/
  | transmissionComplete (after : Nat)
  /-- REPLY_DEADLINE_EXPIRY (R120): the place in the transmit queue, head 0, of the reply whose 250 ms have passed. -/
  | replyDeadlineExpiry (after : Nat) (position : Nat)
  /-- SILENCE_TIMER_EXPIRY (R113). -/
  | silenceTimerExpiry (after : Nat)
  /-- ROLLCALL_SLOT_TIME (R122, R142). -/
  | rollcallSlotTime (after : Nat)
  /-- ROLLCALL_WINDOW_CLOSE (R121). -/
  | rollcallWindowClose (after : Nat)
  /-- BEACON_PERIODIC_TIMER_EXPIRY (R126). -/
  | beaconPeriodicTimerExpiry (after : Nat)
  /-- BEACON_HOLDOFF_EXPIRY (R127). -/
  | beaconHoldoffExpiry (after : Nat)
  /-- NEIGHBOUR_AGE_TICK (R132). -/
  | neighbourAgeTick (after : Nat)
  /-- CLOCK_SECOND (R134). -/
  | clockSecond (after : Nat)
  /-- HOP_AGING_EXPIRY (R137). -/
  | hopAgingExpiry (after : Nat)
  /-- REPORT_TIMER_EXPIRY (R172). -/
  | reportTimerExpiry (after : Nat)
deriving DecidableEq, Repr

end Sys2Proof
end

