-- ==== Sys2Proof/Machine/Bytes.lean ====
section
/-! DEFINITION. Byte order (00 section 4.5: most significant byte first) and the check sequences: the CRC-8 of store slots
(R58), of reader messages (R67) and of slot replies (R122), and the CRC-16 of frames (R106) and of the image (R184). -/

namespace Sys2Proof.Machine

/-- Two bytes, most significant first. -/
def be16 (n : Nat) : List Byte := [BitVec.ofNat 8 (n / 256), BitVec.ofNat 8 n]

/-- Three bytes, most significant first. -/
def be24 (n : Nat) : List Byte := [BitVec.ofNat 8 (n / 65536), BitVec.ofNat 8 (n / 256), BitVec.ofNat 8 n]

/-- Four bytes, most significant first. -/
def be32 (n : Nat) : List Byte :=
  [BitVec.ofNat 8 (n / 16777216), BitVec.ofNat 8 (n / 65536), BitVec.ofNat 8 (n / 256), BitVec.ofNat 8 n]

/-- The number that bytes spell, most significant first. -/
def fromBe (l : List Byte) : Nat := l.foldl (fun a b => a * 256 + b.toNat) 0

/-- The number in `n` bytes from offset `at`. -/
def fieldAt (l : List Byte) (at' n : Nat) : Nat := fromBe ((l.drop at').take n)

/-- The byte at an offset, 0 beyond the end. -/
def byteAt (l : List Byte) (i : Nat) : Byte := l.getD i 0

/-- `n` fill bytes, 0x00 (chapter 12, R193). -/
def fill (n : Nat) : List Byte := List.replicate n 0

/-- A Bool as a byte with that bit 0. -/
def flagByte (b : Bool) : Byte := if b then 1 else 0

/-- A flag as the bit `i` of a number. -/
def flagAt (i : Nat) (b : Bool) : Nat := if b then 2 ^ i else 0

/-- One bit of the CRC-8 division, polynomial 0x07. -/
def crc8Bit (c : Byte) : Byte := if c.msb then (c <<< 1) ^^^ 0x07 else c <<< 1

/-- One byte of the CRC-8. -/
def crc8Byte (c b : Byte) : Byte :=
  crc8Bit (crc8Bit (crc8Bit (crc8Bit (crc8Bit (crc8Bit (crc8Bit (crc8Bit (c ^^^ b))))))))

/-- CRC-8 with polynomial 0x07 and the given initial value, no final inversion (R58: 0xFF; R67, R122: 0x00). -/
def crc8 (init : Byte) (l : List Byte) : Byte := l.foldl crc8Byte init

/-- One bit of the CRC-16 division, polynomial 0x1021. -/
def crc16Bit (c : Word16) : Word16 := if c.msb then (c <<< 1) ^^^ 0x1021 else c <<< 1

/-- One byte of the CRC-16. -/
def crc16Byte (c : Word16) (b : Byte) : Word16 :=
  crc16Bit (crc16Bit (crc16Bit (crc16Bit (crc16Bit (crc16Bit (crc16Bit (crc16Bit
    (c ^^^ (b.setWidth 16 <<< 8)))))))))

/-- CRC-16 with polynomial 0x1021, initial value 0xFFFF, no final inversion (R106, R184). -/
def crc16 (l : List Byte) : Word16 := l.foldl crc16Byte 0xFFFF

/-- A reader message (R67, 12.3): what a module may send. -/
inductive ReaderMessage
  | cardRead (card : Word32) (issue : Byte) (readFault : Bool)
  | repeatIndication
deriving DecidableEq, Repr

/-- The reader message that bytes spell, none when the check byte, length, type or read status is wrong (R67, 12.3). -/
def parseReaderMessage (l : List Byte) : Option ReaderMessage :=
  if l.getLast? = some (crc8 0 l.dropLast) then
    if byteAt l 0 = 0xC1 ∧ l.length = 8 ∧ (byteAt l 6 = 0 ∨ byteAt l 6 = 1) then
      some (.cardRead (BitVec.ofNat 32 (fieldAt l 1 4)) (byteAt l 5) (byteAt l 6 = 1))
    else if byteAt l 0 = 0xC2 ∧ l.length = 2 then some .repeatIndication
    else none
  else none

end Sys2Proof.Machine
end

