-- ==== Sys2Proof/WellFormed.lean ====
section
/-! DEFINITION. Which commands are well formed: what the row of the table says the command is. An ill-formed command still has a
meaning (it is handled as the event it really is); these checks say which commands a sender should send. -/

namespace Sys2Proof

/-- A frame fits the line: its payload is at most 96 bytes (06 section 6.2.1) less the bytes the row itself gives. -/
def RxFrame.fits (f : RxFrame) (given : Nat) : Bool := decide (f.payload.length + given ≤ 96)

/-- The command is what its row of the table says (R67, R173, R184, 06 section 6.2.1). -/
def Instr.wellFormed : Instr → Bool
  | .configurationImageRead _ image => decide (image.length ≤ 192)
  | .readerMessageDiscarded _ _ bytes => (Machine.parseReaderMessage bytes).isNone
  | .dirPut _ f | .dirDrop _ f | .revokePush _ f | .revokePull _ f | .revokeGap _ f | .timeFrame _ f | .beacon _ f
  | .rollcall _ f | .claim _ f | .release _ f | .snapshot _ f | .restart _ f => f.fits 0
  | .queryAlarms _ f | .queryCounters _ f | .queryContainers _ f | .queryNeighbours _ f | .queryStatus _ f
  | .queryDirGet _ f | .queryLog _ f => f.fits 1
  | .queryBadSubject _ f =>
    f.fits 0 && (match f.payload.head? with
      | none => true
      | some subject => decide (subject.toNat = 0 ∨ 7 < subject.toNat))
  | .powerOn _ | .lossOfPower _ | .resetNLow _ | .resetNHigh _ | .startingStoreWork _ | .inputLevelSettled _ _ _
  | .containerStateDerivation _ | .drumOpen _ _ | .drumClosed _ _ | .lockSenseEngaged _ _ | .lockSenseReleased _ _
  | .containerAbsent _ _ | .containerPresent _ _ | .confirmationTimerExpiry _ _ | .drumHeldExpiry _ _
  | .liftLimitExpiry _ _ | .holdTimerExpiry _ _ | .cardRead _ _ _ _ _ | .repeatIndication _ _
  | .indicationSendComplete _ _ | .grantRequest _ _ | .windowTimerExpiry _ _ | .euPeriodicTimerExpiry _ _
  | .settleTimerExpiry _ _ | .returnTimerExpiry _ _ | .burstEnd _ | .blankEnd _ _ | .echoRise _ | .listenEnd _
  | .temperatureRead _ _ | .storeWriteComplete _ | .pullHoldoffExpiry _ | .pullOutstandingTimeout _
  | .frameNotDispatched _ _ | .lineActivity _ _ | .classGapReached _ | .backoffSlotEnd _ | .collision _
  | .transmissionComplete _ | .replyDeadlineExpiry _ _ | .silenceTimerExpiry _ | .rollcallSlotTime _
  | .rollcallWindowClose _ | .beaconPeriodicTimerExpiry _ | .beaconHoldoffExpiry _ | .neighbourAgeTick _
  | .clockSecond _ | .hopAgingExpiry _ | .reportTimerExpiry _ => true

end Sys2Proof
end

