-- ==== Sys2Proof/Decode.lean ====
section
/-! DEFINITION. The GD52 is a block: it fetches no instruction words, and no row of spec/opcode_table.json gives bits. -/

namespace Sys2Proof

/-- The command that a word spells by the table's bits: none, since no row of the table gives bits (log entry 10). -/
def decodeTableWord (_nbits _w : Nat) : Option Instr := none

end Sys2Proof
end

