-- ==== Sys2Proof/Config.lean ====
section
/-! DEFINITION. What the spec leaves open: free values. They have no body, so nothing can be proved of a value of theirs and
every claim holds whatever they are. -/

namespace Sys2Proof

/-- FREE VALUE (log entry 2). The n-th random draw of the part: backoff slots (R118), beacon jitter and the first periodic
beacon (R126). Where it is used it is brought into the range the rule states. -/
opaque Config.freeDraw : Nat → Nat

/-- FREE VALUE (log entry 9). For the n-th loss of power that cuts a slot write, the bits of each byte of the slot that the
cut write had already changed (R63: the previous image, the new image, or a mixture of the two). -/
opaque Config.freeCut : Nat → Nat → Byte

end Sys2Proof
end

