-- ==== Sys2Proof/Machine/Records.lean ====
section
/-! DEFINITION. The records the fifteen blocks hold (Table 2-1 of 00) and their values after a cold reset. State.lean puts them
together. Each field's docstring or the record's cites the rule that names it. -/

namespace Sys2Proof.Machine

/-! ## Four of a kind -/

/-- One value for each container position 0..3 (00 section 4.2). -/
structure Quad (α : Type) where
  c0 : α
  c1 : α
  c2 : α
  c3 : α
deriving DecidableEq, Repr

/-- The value of one position. -/
def Quad.get {α : Type} (q : Quad α) (i : Col) : α :=
  match i with
  | 0 => q.c0
  | 1 => q.c1
  | 2 => q.c2
  | 3 => q.c3

/-- The value of one position replaced. -/
def Quad.set {α : Type} (q : Quad α) (i : Col) (x : α) : Quad α :=
  match i with
  | 0 => { q with c0 := x }
  | 1 => { q with c1 := x }
  | 2 => { q with c2 := x }
  | 3 => { q with c3 := x }

/-- The same value at every position. -/
def Quad.all {α : Type} (x : α) : Quad α := ⟨x, x, x, x⟩

/-- A quad built position by position. -/
def Quad.ofFn {α : Type} (f : Col → α) : Quad α := ⟨f 0, f 1, f 2, f 3⟩

/-- The four positions in index order. -/
def cols : List Col := [0, 1, 2, 3]

/-! ## Timers -/

/-- A timer that counts microseconds up while it runs, and keeps its value while it is stopped (00 section 4.4). -/
structure Timer where
  us : Nat
  running : Bool
deriving DecidableEq, Repr

/-- 0 and stopped. -/
def Timer.zero : Timer := ⟨0, false⟩
/-- Started from 0. -/
def Timer.start : Timer := ⟨0, true⟩
/-- Stopped, keeping its value. -/
def Timer.stop (t : Timer) : Timer := { t with running := false }
/-- Stopped at a value. -/
def Timer.stoppedAt (us : Nat) : Timer := ⟨us, false⟩
/-- After `dt` microseconds: a running timer counts on and holds at its limit. -/
def Timer.advance (dt limit : Nat) (t : Timer) : Timer :=
  if t.running then { t with us := min limit (t.us + dt) } else t

/-- One second in microseconds. -/
def second : Nat := 1000000
/-- The lock confirmation time, 2 s (R5). -/
def confirmLimit : Nat := 2 * second
/-- The drum-held limit, 90 s (R10). -/
def drumHeldLimit : Nat := 90 * second
/-- The minimum drum opening of a cycle, 1 s (R9). -/
def minOpening : Nat := second
/-- The lift timer holds at 65535 s (R14). -/
def liftTop : Nat := 65535 * second
/-- The settle measurement comes 20 s after a deposit (R24). -/
def settleLimit : Nat := 20 * second
/-- The return measurement comes 30 s after the return (R24). -/
def returnLimit : Nat := 30 * second
/-- LISTEN ends at 30,000 µs (R29). -/
def listenLimit : Nat := 30000
/-- The pull holdoff, 10 s (R97). -/
def pullHoldoffLimit : Nat := 10 * second
/-- An outstanding pull ends at 2 s (R98). -/
def outstandingLimit : Nat := 2 * second
/-- The silence limit, 30 s (R113). -/
def silenceLimit : Nat := 30 * second
/-- The beacon holdoff, 5 s (R127). -/
def beaconHoldoffLimit : Nat := 5 * second
/-- The hop-aging time, 6 h (R137). -/
def hopAgingLimit : Nat := 21600 * second

/-- Line time is held in units of 1/24 µs, so that a bit time of 1/38400 s is a whole number of them (00 section 4.4). -/
def unitsPerUs : Nat := 24
/-- One bit time, 625/24 µs, in line units. -/
def bitTime : Nat := 625
/-- The idle that confirms a frame's end, 20 bit times (R105). -/
def frameEndIdle : Nat := 20 * bitTime
/-- The reply deadline, 250 ms = 9600 bit times (R120). -/
def replyDeadline : Nat := 9600 * bitTime

/-! ## Column records -/

/-- Container states (Table 1-2). -/
inductive CcState | idle | granted | depositing | full | held | lifted | missing | settling | fault
deriving DecidableEq, Repr

/-- Fill class (R42). -/
inductive FillClass | openClass | near | full
deriving DecidableEq, Repr

/-- The lock drive (R3). -/
inductive Drive | engage | release
deriving DecidableEq, Repr

/-- Reasons for which a grant ends (R12). -/
inductive EndReason | window | cycles | curtailedFull | curtailedClaim | curtailedRevoked | lifted
deriving DecidableEq, Repr

/-- The state groups of Table 1-2. -/
inductive Group | accepting | full | held | out | fault
deriving DecidableEq, Repr

/-- CC's record of one container (Table 1-1), with the debounced inputs and whether each has settled since STARTING began. -/
structure Cc where
  state : CcState
  drum : DrumLevel
  sense : LockLevel
  present : PresentLevel
  drumSettled : Bool
  senseSettled : Bool
  presentSettled : Bool
  drive : Drive
  confirm : Timer
  drumTimer : Timer
  opening : Timer
  pendingEnd : Option EndReason
  waitingRound : Option Word16
  roundId : Option Word16
  lastEmptied : Option Word16
  hold : Timer
  lift : Timer
  fillBefore : Nat
  settleFailures : Nat
  depositsE : Nat
  cls : FillClass
deriving DecidableEq, Repr

/-- The container record after a cold reset (R22); the state until the derivation and the levels until they settle are the
model's (log entries 5 and 6). -/
def Cc.cold : Cc where
  state := .fault
  drum := .opened
  sense := .released
  present := .present
  drumSettled := false
  senseSettled := false
  presentSettled := false
  drive := .engage
  confirm := .zero
  drumTimer := .zero
  opening := .zero
  pendingEnd := none
  waitingRound := none
  roundId := none
  lastEmptied := none
  hold := .zero
  lift := .zero
  fillBefore := 0
  settleFailures := 0
  depositsE := 0
  cls := .openClass

/-- FE's fields of one container (Table 2-1, R31). -/
structure Fe where
  pm : Nat
  nd : Nat
  nAtStart : Nat
  history : List Nat
  suspect : Nat
  e : Nat
  cls : FillClass
  unknown : Bool
  emptied : Bool
  echoFail : Nat
  inc : Nat
  h : Nat
  tNear : Nat
deriving DecidableEq, Repr

/-- FE's fields after a cold reset (R46). -/
def Fe.cold : Fe where
  pm := 0
  nd := 0
  nAtStart := 0
  history := []
  suspect := 0
  e := 0
  cls := .openClass
  unknown := true
  emptied := false
  echoFail := 0
  inc := 0
  h := 0
  tNear := 0

/-- EU's fields of one container (Table 2-1). `fresh`: the record holds its cold-reset values, so that its request flag is set
at entry to RUN (R24, R190). -/
structure EuCol where
  request : Bool
  periodic : Timer
  settle : Timer
  ret : Timer
  fresh : Bool
deriving DecidableEq, Repr

/-- EU's fields of one container after a cold reset (R46). -/
def EuCol.cold : EuCol := ⟨false, .zero, .zero, .zero, true⟩

/-- The phases of a measurement (02 section 2.1.3). -/
inductive MeasPhase | burst | blank | listen
deriving DecidableEq, Repr

/-- The measurement in flight (R27): container, phase, T, c10, blanking time, elapsed microseconds. -/
structure Measurement where
  cont : Col
  phase : MeasPhase
  degrees : Int
  c10 : Nat
  blanking : Nat
  elapsed : Nat
deriving DecidableEq, Repr

/-- An echo result (R29): a time in microseconds, NO_ECHO or NEAR. -/
inductive EchoResult | time (t : Nat) | noEcho | near
deriving DecidableEq, Repr

/-- EU's state (R23 to R27). -/
structure Eu where
  cols : Quad EuCol
  pointer : Nat
  temperature : Int
  inFlight : Option Measurement
deriving DecidableEq, Repr

/-- EU after a cold reset (R46). -/
def Eu.cold : Eu := ⟨Quad.all EuCol.cold, 0, 15, none⟩

/-! ## Cards, grants and the store -/

/-- A directory entry (Table 3-1). -/
structure DirEntry where
  card : Word32
  household : BitVec 20
  issue : Byte
  blocked : Bool
  mask : Byte
  capClass : Fin 4
  assist : Bool
deriving DecidableEq, Repr

/-- A way of the directory image that holds an entry, with the slot's usage counter (R47, R50). -/
structure DirWay where
  entry : DirEntry
  usage : Nat
deriving DecidableEq, Repr

/-- CD's state: the image as (slot, way) pairs in rising slot order, an unlisted slot being an empty way whose usage counter
is 0 (R47, R50), and the slots whose write CD holds since the queue was full at start (R65). -/
structure Cd where
  image : List (Nat × DirWay)
  held : List Nat
deriving DecidableEq, Repr

/-- A slot of the store (R57). -/
inductive Slot | dir (n : Nat) | rev (n : Nat) | log (n : Nat)
deriving DecidableEq, Repr

/-- A redirect target (R83): station address and container index. -/
structure Target where
  address : Nat
  cont : Nat
deriving DecidableEq, Repr

/-- Indication codes and refusal causes (Table 12-1). -/
inductive IndCode
  | grant | outOfService | readFault | foreign | unknown | blocked | staleCard | notPermitted | cardInUse | busy
  | capReached | redirect | closed | ready | endGrant
deriving DecidableEq, Repr

/-- The fields of a log record beyond the common ones (Table 9-2). -/
inductive LogBody
  | grantEnd (card : Word32) (cyclesDone : Nat) (reason : EndReason)
  | refusal (cause : IndCode) (card : Option Word32) (target : Option Target)
  | emptied (round : Word16) (fillBefore liftSeconds depositsBefore : Nat)
  | inferredEmptied
deriving DecidableEq, Repr

/-- A log record (Tables 9-1 and 9-2). -/
structure LogRecord where
  index : Nat
  time : Word32
  hops : Nat
  cont : Col
  eAfter : Nat
  body : LogBody
deriving DecidableEq, Repr

/-- An item of the directory write queue (R59): a slot and the image to be written there. -/
structure StoreItem where
  slot : Slot
  bytes : List Byte
deriving DecidableEq, Repr

/-- SC's state: the store as address and byte pairs (R57; log entry 7), the directory write queue, the log staging, the write in
flight, and what a warm reset leaves to be raised at entry to RUN (R64, R170). -/
structure Sc where
  store : List Host.Cell
  queue : List StoreItem
  staging : List LogRecord
  inFlight : Option StoreItem
  logLostDue : Bool
  counterFullDue : Bool
deriving DecidableEq, Repr

/-- SC with a blank store (R66). -/
def Sc.cold : Sc := ⟨[], [], [], none, false, false⟩

/-- An indication to a reader module (Table 4-1). -/
structure Indication where
  code : IndCode
  cycles : Nat
  window : Nat
  target : Option Target
  reason : Option EndReason
deriving DecidableEq, Repr

/-- An indication that carries its code alone. -/
def Indication.plain (code : IndCode) : Indication := ⟨code, 0, 0, none, none⟩

/-- A grant record that is not absent (R74): REQUESTED while `active` is false, then ACTIVE. -/
structure Grant where
  active : Bool
  card : Word32
  metered : Bool
  allowed : Nat
  done : Nat
  windowLength : Nat
  window : Timer
  revoked : Bool
deriving DecidableEq, Repr

/-- AU's state of one column: the grant record and the reader channel's last, waiting and sending indications (R68, R74). -/
structure Au where
  grant : Option Grant
  last : Indication
  waiting : Option Indication
  sending : Option Indication
deriving DecidableEq, Repr

/-- AU's column at a reset (R88), before OUT_OF_SERVICE is sent. -/
def Au.afterReset : Au := ⟨none, .plain .outOfService, none, none⟩

/-! ## Revocations -/

/-- A revocation record (R90): sequence, card, and whether its action is BLOCK (else RESTORE). -/
structure RevRecord where
  seq : Nat
  card : Word32
  block : Bool
deriving DecidableEq, Repr

/-- The target of a wanted pull (R96). -/
inductive PullTarget | station (address : Nat) | best
deriving DecidableEq, Repr

/-- The outstanding pull (R97): its target and its 2 s timer. -/
structure OutstandingPull where
  target : Nat
  timer : Timer
deriving DecidableEq, Repr

/-- RU's state (R90, R91, R96 to R100). -/
structure Ru where
  list : List RevRecord
  base : Nat
  mark : Nat
  wanted : Option (PullTarget × Nat)
  outstanding : Option OutstandingPull
  holdoff : Timer
  gapMark : Option Nat
deriving DecidableEq, Repr

/-- RU after a cold reset, the list empty until it is rebuilt (R103; log entry 50). -/
def Ru.cold : Ru := ⟨[], 0, 0, none, none, .stoppedAt pullHoldoffLimit, none⟩

/-! ## The line -/

/-- Frame kinds (Table 12-1). -/
inductive Kind
  | beacon | revokePull | revokePush | revokeGap | time | dirPut | dirDrop | dirResult | rollcall | claim | release
  | claimReply | query | queryReply | snapshot | restart | reply | alarm
deriving DecidableEq, Repr

/-- A frame of the transmit queue (Table 6-1). `deadline`: the line units since the end of the request it answers, for a reply.
`backoff`: the slots drawn for it and still to wait (R118). The payload of a BEACON or an ALARM is formed at each attempt. -/
structure TxFrame where
  kind : Kind
  dest : Byte
  tag : Byte
  payload : List Byte
  cls : Nat
  arrival : Nat
  attempts : Nat
  deadline : Option Nat
  departure : Bool
  backoff : Option Nat
deriving DecidableEq, Repr

/-- Access phases (Table 6-4). -/
inductive AccessPhase | idle | gap | backoff | sending | suspended
deriving DecidableEq, Repr

/-- The open roll-call window (R121): line units since the end of the ROLLCALL, the own slot time in bit times (none at own
address 0), and whether the slot has passed. -/
structure RollWindow where
  elapsed : Nat
  slotTime : Option Nat
  slotPassed : Bool
deriving DecidableEq, Repr

/-- The receive check state (Table 6-1): a frame in reception with its byte count, running CRC and framing error. -/
structure Reception where
  count : Nat
  crc : Word16
  framingError : Bool
deriving DecidableEq, Repr

/-- LC's state (Table 6-1). The frame in access is named by its arrival number. `lineOut` holds the bytes of the transmission
last begun, the model's own output field (log entry 8). -/
structure Lc where
  queue : List TxFrame
  access : Option Nat
  phase : AccessPhase
  idle : Nat
  busy : Bool
  window : Option RollWindow
  ownSlot : Nat
  preamble : Bool
  rx : Option Reception
  margin : Fin 8
  silence : Timer
  tag : Byte
  arrivals : Nat
  lineOut : List Byte
deriving DecidableEq, Repr

/-- LC after a reset of either kind (R124). DESIGN CHOICE: the idle time is 0 and the line counts as not busy, for which R124 has
no row (log entry 68). -/
def Lc.afterReset : Lc where
  queue := []
  access := none
  phase := .idle
  idle := 0
  busy := false
  window := none
  ownSlot := 0
  preamble := false
  rx := none
  margin := 7
  silence := .zero
  tag := 0
  arrivals := 0
  lineOut := []

/-! ## Neighbours, time, rounds, log -/

/-- A container summary of a neighbour (R125, Table 7-1), its codes as received (log entry 15). -/
structure Summary where
  fraction : BitVec 3
  group : BitVec 3
  cls : BitVec 2
  fillPercent : Byte
  unknown : Bool
deriving DecidableEq, Repr

/-- A neighbour-table entry (Table 7-1). -/
structure Neighbour where
  address : Nat
  lastSeq : Byte
  age : Nat
  margin : Fin 8
  streak : Nat
  marginal : Bool
  summaries : List Summary
  mark : Nat
  hops : Nat
  alarms : Bool
  rank : Option Nat
deriving DecidableEq, Repr

/-- NU's state: the table in rising address order, the beacon sequence, the periodic timer (microseconds left), the holdoff
timer and the early flag (R126 to R129). -/
structure Nu where
  table : List Neighbour
  seq : Byte
  periodicLeft : Nat
  holdoff : Timer
  early : Bool
deriving DecidableEq, Repr

/-- NU after a cold reset (R139); the periodic timer is 0 until its draw at entry to RUN (log entry 52). -/
def Nu.cold : Nu := ⟨[], 0, 0, .stoppedAt beaconHoldoffLimit, false⟩

/-- TU's state (R134, R137, R138). -/
structure Tu where
  clock : Word32
  hops : Nat
  period : Nat
  aging : Timer
deriving DecidableEq, Repr

/-- TU after a cold reset (R140). -/
def Tu.cold : Tu := ⟨0, 15, 0, .zero⟩

/-- RR's roll-call in hand (R141). -/
structure Rollcall where
  mask : Byte
  threshold : Nat
deriving DecidableEq, Repr

/-- DL's two indices (R159). -/
structure Dl where
  oldest : Nat
  next : Nat
deriving DecidableEq, Repr

/-! ## Alarms and counters -/

/-- The live counters of R169. -/
inductive Counter
  | cardsPresented | grants | refusals | redirects | framesRxOk | framesRxBad | framesTx | collisions | txAbandoned
  | repliesLate | beaconsMissed | echoFails | logLost | storeWrites | revocationsApplied | claimLapsed
  | deposits (c : Col)
deriving DecidableEq, Repr

/-- The values of the sixteen station counters, in the order of the table of R169, and of the four DEPOSITS counters. -/
structure Counters where
  cardsPresented : Nat
  grants : Nat
  refusals : Nat
  redirects : Nat
  framesRxOk : Nat
  framesRxBad : Nat
  framesTx : Nat
  collisions : Nat
  txAbandoned : Nat
  repliesLate : Nat
  beaconsMissed : Nat
  echoFails : Nat
  logLost : Nat
  storeWrites : Nat
  revocationsApplied : Nat
  claimLapsed : Nat
  deposits : Quad Nat
deriving DecidableEq, Repr

/-- Every counter 0 (R182). -/
def Counters.zero : Counters := ⟨0, 0, 0, 0, 0, 0, 0, 0, 0, 0, 0, 0, 0, 0, 0, 0, Quad.all 0⟩

/-- Condition names (Table 10-1). -/
inductive Cond
  | lineSilent | dirGap | addressClash | storeFull | logLost | counterFull | unseenEmptying | configClamped
  | echoFail | lockFault | drumHeld | containerMissing | unclaimedLift | drumForced
deriving DecidableEq, Repr

/-- ACU's state (R165 to R172). `levels` and `pending` hold one bit for each of the 32 condition positions, bit p for position
p of the ALARM payload (12.1). -/
structure Acu where
  levels : BitVec 32
  pending : BitVec 32
  latch : Option Word32
  live : Counters
  copies : Counters
  stampClock : Word32
  stampHops : Nat
  report : Timer
deriving DecidableEq, Repr

/-- ACU after a cold reset (R182). -/
def Acu.cold : Acu := ⟨0, 0, none, .zero, .zero, 0, 15, .zero⟩

/-! ## Configuration -/

/-- The fields of one container of the image (R185, 12.4). -/
structure ContainerConfig where
  fraction : Nat
  dFloor : Nat
  h : Nat
  v : Nat
  vd : Nat
  tNear : Nat
  tFull : Nat
  cycles : Nat
  carrier : Nat
  burst : Nat
deriving DecidableEq, Repr

/-- No container fields. -/
def ContainerConfig.blank : ContainerConfig := ⟨0, 0, 0, 0, 0, 0, 0, 0, 0, 0⟩

/-- One position of the preference list (R185). -/
structure Preference where
  address : Nat
  rank : Nat
deriving DecidableEq, Repr

/-- The configuration image as clamped (R185). `masked` and `both` hold one bit for each condition name, in the order of Table
10-1 (12.4). -/
structure ConfigImage where
  ownAddress : Nat
  count : Nat
  districtPrefix : Nat
  measInterval : Nat
  grantWindow : Nat
  holdTime : Nat
  liftLimit : Nat
  beaconInterval : Nat
  periodDays : Nat
  auto : Bool
  reportPeriod : Nat
  openRedirect : Bool
  metered : Byte
  caps : Quad Nat
  prefs : List Preference
  masked : BitVec 14
  both : BitVec 14
  containers : Quad ContainerConfig
deriving DecidableEq, Repr

/-- No image in force: every field zero (R186 for SAFE; before the first reading log entry 4). -/
def ConfigImage.blank : ConfigImage where
  ownAddress := 0
  count := 0
  districtPrefix := 0
  measInterval := 0
  grantWindow := 0
  holdTime := 0
  liftLimit := 0
  beaconInterval := 0
  periodDays := 0
  auto := false
  reportPeriod := 0
  openRedirect := false
  metered := 0
  caps := Quad.all 0
  prefs := []
  masked := 0
  both := 0
  containers := Quad.all .blank

/-- Station phases (Table 2-2 of 00). -/
inductive Phase | starting | run | safe
deriving DecidableEq, Repr

/-- The start kind (R183). -/
inductive StartKind | cold | warm
deriving DecidableEq, Repr

/-- What STARTING waits for next (R184, R187, R188). -/
inductive StartStage | image | storeWork | derivation
deriving DecidableEq, Repr

/-- CL's state (chapter 11), with the power supply and the RESET_N level it stands on. -/
structure Cl where
  phase : Phase
  startKind : StartKind
  stage : StartStage
  powered : Bool
  resetLow : Bool
  clamped : Bool
  safe : Bool
  image : ConfigImage
deriving DecidableEq, Repr

/-- CL at a cold start (R183, R191). -/
def Cl.cold : Cl := ⟨.starting, .cold, .image, true, false, false, false, .blank⟩

end Sys2Proof.Machine
end

