-- ==== Sys2Proof/Machine/State.lean ====
section
/-! DEFINITION. The state of the GD52: one field per block of Table 2-1 of spec 00, the free-value counter and the queue of
waiting commands. Also the reasons a step could stop, and the state after reset. -/

namespace Sys2Proof.Machine

/-- Reasons the part could stop. There are none: the spec gives the GD52 no stop, so this type has no constructor and no
meaning answers a fault. -/
inductive Fault
deriving DecidableEq, Repr

/-- Reasons a command is refused. -/
inductive Refusal
  /-- The command has no meaning yet; raised by the arms of `exec` alone. Safe. -/
  | notModelled (mnemonic : String)
deriving DecidableEq, Repr

/-- The state of the part. -/
structure State where
  /-- Configuration Loader, power and RESET_N (chapter 11). -/
  cl : Cl
  /-- Container Controller, per container (chapter 1). -/
  cc : Quad Cc
  /-- Echo Unit (chapter 2). -/
  eu : Eu
  /-- Fill Estimator, per container (chapter 2). -/
  fe : Quad Fe
  /-- Card Directory (chapter 3). -/
  cd : Cd
  /-- Store Controller (chapter 3). -/
  sc : Sc
  /-- Access Unit, per column (chapter 4). -/
  au : Quad Au
  /-- Revocation Unit (chapter 5). -/
  ru : Ru
  /-- Line Controller (chapter 6). -/
  lc : Lc
  /-- Neighbour Unit (chapter 7). -/
  nu : Nu
  /-- Time Unit (chapter 7). -/
  tu : Tu
  /-- Round Responder: the roll-call in hand (R141). -/
  rr : Option Rollcall
  /-- Deposit Log (chapter 9). -/
  dl : Dl
  /-- Alarm and Counter Unit (chapter 10). -/
  acu : Acu
  /-- Request Responder: a restart is promised (R181). -/
  restartPromised : Bool
  /-- The model's own: how many free values have been drawn (log entry 2). -/
  freeIndex : Nat
  /-- The commands that wait, first in first out. -/
  pending : List Instr
deriving DecidableEq, Repr

/-- AU's column once OUT_OF_SERVICE is being sent at the start of STARTING (R68, R88). -/
def Au.starting : Au := { Au.afterReset with sending := some (.plain .outOfService) }

/-- The part right after a cold reset by power-on: RESET_N high, a blank store, every block at its cold-reset values (R22, R46,
R66, R88, R103, R124, R139, R140, R156, R163, R182, R191), each reader channel being sent OUT_OF_SERVICE. DESIGN CHOICE: until the
start sets them, the directory image and RU's list are empty (log entry 50) and the log's indices are 0 (log entry 51), and the
other values that the spec leaves open are those of log entries 3 to 7, 52 and 68. -/
def State.reset : State where
  cl := .cold
  cc := Quad.all .cold
  eu := .cold
  fe := Quad.all .cold
  cd := ⟨[], []⟩
  sc := .cold
  au := Quad.all .starting
  ru := .cold
  lc := .afterReset
  nu := .cold
  tu := .cold
  rr := none
  dl := ⟨0, 0⟩
  acu := .cold
  restartPromised := false
  freeIndex := 0
  pending := []

end Sys2Proof.Machine
end

