-- ==== Sys2Proof/Machine/Ops.lean ====
section
/-! DEFINITION. The named operations over the state: updates of one block, sparse lists and the store's memory, the passage of
time, free draws, and the slot images of chapter 12. -/

namespace Sys2Proof.Machine

/-! ## Updates of one block -/

/-- CC's record of container `c` replaced. -/
def State.setCc (s : State) (c : Col) (x : Cc) : State := { s with cc := s.cc.set c x }
/-- FE's fields of container `c` replaced. -/
def State.setFe (s : State) (c : Col) (x : Fe) : State := { s with fe := s.fe.set c x }
/-- AU's column `c` replaced. -/
def State.setAu (s : State) (c : Col) (x : Au) : State := { s with au := s.au.set c x }
/-- EU's fields of container `c` replaced. -/
def State.setEuCol (s : State) (c : Col) (x : EuCol) : State := { s with eu := { s.eu with cols := s.eu.cols.set c x } }
/-- EU replaced. -/
def State.setEu (s : State) (x : Eu) : State := { s with eu := x }
/-- CL replaced. -/
def State.setCl (s : State) (x : Cl) : State := { s with cl := x }
/-- CD replaced. -/
def State.setCd (s : State) (x : Cd) : State := { s with cd := x }
/-- SC replaced. -/
def State.setSc (s : State) (x : Sc) : State := { s with sc := x }
/-- RU replaced. -/
def State.setRu (s : State) (x : Ru) : State := { s with ru := x }
/-- LC replaced. -/
def State.setLc (s : State) (x : Lc) : State := { s with lc := x }
/-- NU replaced. -/
def State.setNu (s : State) (x : Nu) : State := { s with nu := x }
/-- TU replaced. -/
def State.setTu (s : State) (x : Tu) : State := { s with tu := x }
/-- DL replaced. -/
def State.setDl (s : State) (x : Dl) : State := { s with dl := x }
/-- ACU replaced. -/
def State.setAcu (s : State) (x : Acu) : State := { s with acu := x }
/-- RR's roll-call in hand replaced. -/
def State.setRr (s : State) (x : Option Rollcall) : State := { s with rr := x }

/-- The configuration image in force. -/
def State.cfg (s : State) : ConfigImage := s.cl.image
/-- The configuration of container `c`. -/
def State.ccfg (s : State) (c : Col) : ContainerConfig := s.cl.image.containers.get c
/-- The station is powered and in RUN. -/
def State.inRun (s : State) : Bool := s.cl.powered && decide (s.cl.phase = .run)
/-- Container `c` is one of the station's (00 section 4.2). -/
def State.inUse (s : State) (c : Col) : Bool := decide (c.val < s.cl.image.count)
/-- Column `c` takes part in RUN: the station is in RUN and the column is one of its own. -/
def State.serves (s : State) (c : Col) : Bool := s.inRun && s.inUse c

/-! ## Sparse lists: (key, value) pairs in rising key order -/

/-- The value at a key. -/
def Sparse.get {α : Type} (k : Nat) : List (Nat × α) → Option α
  | [] => none
  | (i, x) :: l => if i = k then some x else Sparse.get k l

/-- The value at a key set. -/
def Sparse.put {α : Type} (k : Nat) (v : α) : List (Nat × α) → List (Nat × α)
  | [] => [(k, v)]
  | (i, x) :: l => if k < i then (k, v) :: (i, x) :: l else if k = i then (k, v) :: l else (i, x) :: Sparse.put k v l

/-- The key removed. -/
def Sparse.del {α : Type} (k : Nat) : List (Nat × α) → List (Nat × α)
  | [] => []
  | (i, x) :: l => if i = k then l else (i, x) :: Sparse.del k l

/-! ## The store as memory (R57) -/

/-- What a byte of the store that nothing has written reads as (R58: a store delivered blank or with every byte 0xFF reads as
empty; log entry 7). -/
def blankByte : Byte := 0xFF

/-- The bytes of the three regions together (R57). -/
def storeBytes : Nat := 58124

/-- One byte of the store. -/
def Memory.read (m : List Host.Cell) (a : Nat) : Byte := (Sparse.get a m).getD blankByte

/-- One byte of the store written, keeping the canonical form. -/
def Memory.write (m : List Host.Cell) (a : Nat) (b : Byte) : List Host.Cell :=
  if b = blankByte then Sparse.del a m else Sparse.put a b m

/-- Consecutive bytes of the store written. -/
def Memory.writeBytes (m : List Host.Cell) (a : Nat) : List Byte → List Host.Cell
  | [] => m
  | b :: l => Memory.writeBytes (Memory.write m a b) (a + 1) l

/-- Consecutive bytes of the store. -/
def Memory.readBytes (m : List Host.Cell) (a n : Nat) : List Byte := (List.range n).map fun i => Memory.read m (a + i)

/-- The canonical form: addresses strictly rising and no entry equal to the blank byte. -/
def Memory.wf : List Host.Cell → Bool
  | [] => true
  | [(_, b)] => decide (b ≠ blankByte)
  | (a, b) :: (a', b') :: l => decide (b ≠ blankByte) && decide (a < a') && Memory.wf ((a', b') :: l)

/-- The bytes a slot takes (R57). -/
def Slot.size : Slot → Nat
  | .dir _ => 16
  | .rev _ => 12
  | .log _ => 24

/-- The address of a slot's first byte: the regions stand in the order of R57's table (log entry 7). -/
def Slot.address : Slot → Nat
  | .dir n => n * 16
  | .rev n => 32768 + n * 12
  | .log n => 33548 + n * 24

/-- The bytes a slot holds. -/
def readSlot (m : List Host.Cell) (sl : Slot) : List Byte := Memory.readBytes m sl.address sl.size

/-- A slot written whole (R57). -/
def writeSlot (m : List Host.Cell) (item : StoreItem) : List Host.Cell := Memory.writeBytes m item.slot.address item.bytes

/-! ## Slot images (Table 12-5) -/

/-- A slot image with its check byte, the CRC-8 of R58. -/
def withCheck (body : List Byte) : List Byte := body ++ [crc8 0xFF body]

/-- The tag and the check byte of a slot image are right (R58). -/
def slotValid (tag : Byte) (l : List Byte) : Bool :=
  decide (l.head? = some tag) && decide (l.getLast? = some (crc8 0xFF l.dropLast))

/-- The image of a directory entry. -/
def DirEntry.image (e : DirEntry) : List Byte :=
  withCheck ([0x5D] ++ be32 e.card.toNat ++ be24 e.household.toNat ++ [e.issue, flagByte e.blocked, e.mask,
    BitVec.ofNat 8 e.capClass.val, flagByte e.assist] ++ fill 2)

/-- The empty slot image of a directory slot (R58). -/
def emptyDirImage : List Byte := fill 16

/-- The directory entry a slot image holds, none when it reads as empty (R58, R193). -/
def parseDirEntry (l : List Byte) : Option DirEntry :=
  if slotValid 0x5D l = true ∧ (byteAt l 9).toNat ≤ 1 then
    some { card := BitVec.ofNat 32 (fieldAt l 1 4), household := BitVec.ofNat 20 (fieldAt l 5 3), issue := byteAt l 8,
           blocked := byteAt l 9 = 1, mask := byteAt l 10, capClass := Fin.ofNat 4 (byteAt l 11).toNat,
           assist := (byteAt l 12).getLsbD 0 }
  else none

/-- The image of a revocation record. -/
def RevRecord.image (r : RevRecord) : List Byte :=
  withCheck ([0x5E] ++ be32 r.seq ++ be32 r.card.toNat ++ [if r.block then 1 else 2] ++ fill 1)

/-- The revocation record a slot image holds (R58, R193). -/
def parseRevRecord (l : List Byte) : Option RevRecord :=
  if slotValid 0x5E l = true ∧ (byteAt l 9 = 1 ∨ byteAt l 9 = 2) then
    some ⟨fieldAt l 1 4, BitVec.ofNat 32 (fieldAt l 5 4), byteAt l 9 = 1⟩
  else none

/-- The image of the base slot (R91). -/
def baseImage (b : Nat) : List Byte := withCheck ([0x5B] ++ be32 b ++ fill 6)

/-- The base a slot image holds; a base slot that reads as empty gives 0 (R101). -/
def parseBase (l : List Byte) : Nat := if slotValid 0x5B l = true then fieldAt l 1 4 else 0

/-- The code of an end reason (Table 12-1). -/
def EndReason.code : EndReason → Byte
  | .window => 0
  | .cycles => 1
  | .curtailedFull => 2
  | .curtailedClaim => 3
  | .curtailedRevoked => 4
  | .lifted => 5

/-- The code of an indication or refusal cause (Table 12-1). -/
def IndCode.code : IndCode → Byte
  | .grant => 0
  | .outOfService => 1
  | .readFault => 2
  | .foreign => 3
  | .unknown => 4
  | .blocked => 5
  | .staleCard => 6
  | .notPermitted => 7
  | .cardInUse => 8
  | .busy => 9
  | .capReached => 10
  | .redirect => 11
  | .closed => 12
  | .ready => 13
  | .endGrant => 14

/-- The code of a log kind (Table 12-1). -/
def LogBody.kindCode : LogBody → Nat
  | .grantEnd _ _ _ => 0
  | .refusal _ _ _ => 1
  | .emptied _ _ _ _ => 2
  | .inferredEmptied => 3

/-- The eight bytes of a log record that its kind lays out (Table 12-4, R193). -/
def LogBody.bytes : LogBody → List Byte
  | .grantEnd card done reason => be32 card.toNat ++ [BitVec.ofNat 8 done, reason.code] ++ fill 2
  | .refusal cause card target =>
    [cause.code] ++ be32 (card.map BitVec.toNat |>.getD 0)
      ++ [BitVec.ofNat 8 (target.map Target.address |>.getD 0), BitVec.ofNat 8 (target.map Target.cont |>.getD 0)] ++ fill 1
  | .emptied round before lift deposits => be16 round.toNat ++ be16 before ++ be16 lift ++ be16 deposits
  | .inferredEmptied => fill 8

/-- The 20 bytes of a log record (Table 12-4). -/
def LogRecord.bytes (r : LogRecord) : List Byte :=
  be32 r.index ++ be32 r.time.toNat ++ [BitVec.ofNat 8 (r.hops % 16 + 16 * r.body.kindCode), BitVec.ofNat 8 r.cont.val]
    ++ be16 r.eAfter ++ r.body.bytes

/-- The slot image of a log record (Table 12-5). -/
def LogRecord.image (r : LogRecord) : List Byte := withCheck ([0x5A] ++ r.bytes ++ fill 2)

/-- The slot of the log record with an index (R160). -/
def logSlot (index : Nat) : Slot := .log (index % 1024)

/-- The enumerated fields of a log slot hold defined codes (R193, Table 12-4): the kind, the end reason of a GRANT_END and the
cause of a REFUSAL (log entry 56). -/
def logCodesDefined (l : List Byte) : Bool :=
  match (byteAt l 9).toNat / 16 with
  | 0 => decide ((byteAt l 18).toNat ≤ 5)
  | 1 => decide ((byteAt l 13).toNat ≤ 14)
  | kind => decide (kind ≤ 3)

/-- The index of the log record a slot image holds, none when it reads as empty (R58, R193). -/
def parseLogIndex (l : List Byte) : Option Nat :=
  if slotValid 0x5A l = true ∧ logCodesDefined l = true then some (fieldAt l 1 4) else none

/-! ## Free draws -/

/-- A random draw, uniform from 0 to `top` in the spec's words; here any value of that range (R118, R126; log entry 2). -/
def drawUpTo (top : Nat) (s : State) : Nat × State :=
  (Config.freeDraw s.freeIndex % (top + 1), { s with freeIndex := s.freeIndex + 1 })

/-! ## The passage of time -/

/-- CC's timers after `dt` microseconds of RUN (R4, R8, R10, R14, R18). -/
def Cc.advance (dt holdSeconds : Nat) (x : Cc) : Cc :=
  { x with
    confirm := x.confirm.advance dt confirmLimit
    drumTimer := x.drumTimer.advance dt drumHeldLimit
    opening := x.opening.advance dt (x.opening.us + dt)
    hold := x.hold.advance dt (holdSeconds * second)
    lift := x.lift.advance dt liftTop }

/-- EU's timers of one container after `dt` microseconds of RUN (R24). -/
def EuCol.advance (dt interval : Nat) (x : EuCol) : EuCol :=
  { x with
    periodic := x.periodic.advance dt (interval * second)
    settle := x.settle.advance dt settleLimit
    ret := x.ret.advance dt returnLimit }

/-- AU's window timer after `dt` microseconds of RUN (R77). -/
def Au.advance (dt : Nat) (x : Au) : Au :=
  { x with grant := x.grant.map fun g => { g with window := g.window.advance dt (g.windowLength * second) } }

/-- LC's times after `dt` microseconds of RUN: idle time (it stands while the line is busy or the part transmits), window,
silence timer and the age of each reply (R113, R117, R120, R121). -/
def Lc.advance (dt : Nat) (x : Lc) : Lc :=
  { x with
    idle := if x.busy ∨ x.phase = .sending then x.idle
            else (if 0 < x.ownSlot then 0 else x.idle) + (dt * unitsPerUs - x.ownSlot)
    ownSlot := x.ownSlot - dt * unitsPerUs
    window := x.window.map fun w => { w with elapsed := w.elapsed + dt * unitsPerUs }
    silence := x.silence.advance dt silenceLimit
    queue := x.queue.map fun f => { f with deadline := f.deadline.map (· + dt * unitsPerUs) } }

/-- The part after `dt` microseconds (00 section 4.4): in RUN every timer that runs counts on and holds at its limit until the
command of its expiry is taken; in STARTING and SAFE, and without power, the timers do not run (R22, R46, R124, R139, R140,
R182). The district clock is counted by CLOCK_SECOND. -/
def State.advance (dt : Nat) (s : State) : State :=
  if s.inRun then
    { s with
      cc := Quad.ofFn fun c => (s.cc.get c).advance dt s.cfg.holdTime
      eu := { s.eu with
        cols := Quad.ofFn fun c => (s.eu.cols.get c).advance dt s.cfg.measInterval
        inFlight := s.eu.inFlight.map fun m => { m with elapsed := min listenLimit (m.elapsed + dt) } }
      au := Quad.ofFn fun c => (s.au.get c).advance dt
      ru := { s.ru with
        holdoff := s.ru.holdoff.advance dt pullHoldoffLimit
        outstanding := s.ru.outstanding.map fun o => { o with timer := o.timer.advance dt outstandingLimit } }
      lc := s.lc.advance dt
      nu := { s.nu with
        periodicLeft := s.nu.periodicLeft - dt
        holdoff := s.nu.holdoff.advance dt beaconHoldoffLimit }
      tu := { s.tu with aging := s.tu.aging.advance dt hopAgingLimit }
      acu := { s.acu with
        report := s.acu.report.advance dt
          (if s.cfg.auto then s.cfg.reportPeriod * 3600 * second else s.acu.report.us + dt) } }
  else s

end Sys2Proof.Machine
end

