-- ==== Sys2Proof/Machine/Flags.lean ====
section
/-! DEFINITION. Conditions and counters (chapter 10), and the placing of frames in the transmit queue (R114 to R117) that an
ALARM needs. Everything a block raises, lowers, counts or offers goes through `raise`, `lower`, `occur`, `count` and `offer`. -/

namespace Sys2Proof.Machine

/-! ## Counters (R169) -/

/-- The value of a counter. -/
def Counters.get (k : Counters) : Counter → Nat
  | .cardsPresented => k.cardsPresented
  | .grants => k.grants
  | .refusals => k.refusals
  | .redirects => k.redirects
  | .framesRxOk => k.framesRxOk
  | .framesRxBad => k.framesRxBad
  | .framesTx => k.framesTx
  | .collisions => k.collisions
  | .txAbandoned => k.txAbandoned
  | .repliesLate => k.repliesLate
  | .beaconsMissed => k.beaconsMissed
  | .echoFails => k.echoFails
  | .logLost => k.logLost
  | .storeWrites => k.storeWrites
  | .revocationsApplied => k.revocationsApplied
  | .claimLapsed => k.claimLapsed
  | .deposits c => k.deposits.get c

/-- The value of a counter set. -/
def Counters.set (k : Counters) (v : Nat) : Counter → Counters
  | .cardsPresented => { k with cardsPresented := v }
  | .grants => { k with grants := v }
  | .refusals => { k with refusals := v }
  | .redirects => { k with redirects := v }
  | .framesRxOk => { k with framesRxOk := v }
  | .framesRxBad => { k with framesRxBad := v }
  | .framesTx => { k with framesTx := v }
  | .collisions => { k with collisions := v }
  | .txAbandoned => { k with txAbandoned := v }
  | .repliesLate => { k with repliesLate := v }
  | .beaconsMissed => { k with beaconsMissed := v }
  | .echoFails => { k with echoFails := v }
  | .logLost => { k with logLost := v }
  | .storeWrites => { k with storeWrites := v }
  | .revocationsApplied => { k with revocationsApplied := v }
  | .claimLapsed => { k with claimLapsed := v }
  | .deposits c => { k with deposits := k.deposits.set c v }

/-- The top value of a counter (R169). -/
def counterTop : Nat := 65535

/-- `n` added to a live counter, saturating (R169). -/
def addCount (k : Counter) (n : Nat) (s : State) : State :=
  s.setAcu { s.acu with live := s.acu.live.set (min counterTop (s.acu.live.get k + n)) k }

/-- The addition brings the counter from below its top to its top (R170). -/
def reachesTop (k : Counter) (n : Nat) (s : State) : Bool :=
  decide (s.acu.live.get k < counterTop) && decide (counterTop ≤ s.acu.live.get k + n)

/-- The twenty counter values in the order of R169's table, two bytes each (Table 12-3). -/
def Counters.bytes (k : Counters) : List Byte :=
  be16 k.cardsPresented ++ be16 k.grants ++ be16 k.refusals ++ be16 k.redirects ++ be16 k.framesRxOk
    ++ be16 k.framesRxBad ++ be16 k.framesTx ++ be16 k.collisions ++ be16 k.txAbandoned ++ be16 k.repliesLate
    ++ be16 k.beaconsMissed ++ be16 k.echoFails ++ be16 k.logLost ++ be16 k.storeWrites
    ++ be16 k.revocationsApplied ++ be16 k.claimLapsed
    ++ be16 (k.deposits.get 0) ++ be16 (k.deposits.get 1) ++ be16 (k.deposits.get 2) ++ be16 (k.deposits.get 3)

/-! ## Condition positions (Table 10-1, 12.1) -/

/-- The code of a condition name (Table 12-1). -/
def Cond.code : Cond → Nat
  | .lineSilent => 0
  | .dirGap => 1
  | .addressClash => 2
  | .storeFull => 3
  | .logLost => 4
  | .counterFull => 5
  | .unseenEmptying => 6
  | .configClamped => 7
  | .echoFail => 8
  | .lockFault => 9
  | .drumHeld => 10
  | .containerMissing => 11
  | .unclaimedLift => 12
  | .drumForced => 13

/-- The position of a condition among the 32, for a per-container condition that of container `c` (12.1). -/
def Cond.position (k : Cond) (c : Col) : Nat := if k.code < 8 then k.code else 8 + 6 * c.val + (k.code - 8)

/-- The bit of one condition position. -/
def positionBit (p : Nat) : BitVec 32 := 1#32 <<< p

/-- The live level at a condition. -/
def State.level (s : State) (k : Cond) (c : Col) : Bool := s.acu.levels.getLsbD (k.position c)

/-- The pending flag at a condition. -/
def State.isPending (s : State) (k : Cond) (c : Col) : Bool := s.acu.pending.getLsbD (k.position c)

/-- An edge of a condition is qualifying (R166): the condition is not masked, and the edge is a rise or its mode is BOTH. -/
def qualifies (s : State) (k : Cond) (rise : Bool) : Bool :=
  !s.cfg.masked.getLsbD k.code && (rise || s.cfg.both.getLsbD k.code)

/-- An edge newly sets its flag (R166, R167). -/
def newlySets (s : State) (k : Cond) (c : Col) (rise : Bool) : Bool := qualifies s k rise && !s.isPending k c

/-- The pending set and latch stamp after an edge that newly sets its flag (R166). -/
def setPending (k : Cond) (c : Col) (s : State) : State :=
  s.setAcu { s.acu with
    pending := s.acu.pending ||| positionBit (k.position c)
    latch := if s.acu.pending = 0 then some s.tu.clock else s.acu.latch }

/-! ## The transmit queue (R114 to R117) -/

/-- A frame that answers a request, before it is placed: class 0, or 1 for a CLAIM_REPLY (R114). The deadline is measured from
the request's end, 20 bit times before the frame is dispatched (R105, R120). -/
def replyFrame (kind : Kind) (f : RxFrame) (payload : List Byte) (departure : Bool) : TxFrame :=
  { kind := kind, dest := f.src, tag := f.tag, payload := payload, cls := if kind = .claimReply then 1 else 0,
    arrival := 0, attempts := 0, deadline := some frameEndIdle, departure := departure, backoff := none }

/-- A frame the station originates, before it is placed and given its TAG (R106). -/
def originFrame (kind : Kind) (dest : Byte) (payload : List Byte) : TxFrame :=
  { kind := kind, dest := dest, tag := 0, payload := payload, cls := if kind = .alarm then 1 else 2,
    arrival := 0, attempts := 0, deadline := none, departure := false, backoff := none }

/-- A frame placed in class order, behind those of its class (R114). -/
def insertFrame (f : TxFrame) : List TxFrame → List TxFrame
  | [] => [f]
  | g :: l => if g.cls ≤ f.cls then g :: insertFrame f l else f :: g :: l

/-- The queue without the frame of one arrival number. -/
def removeFrame (arrival : Nat) (q : List TxFrame) : List TxFrame := q.filter fun g => decide (g.arrival ≠ arrival)

/-- The head takes access: in GAP, or SUSPENDED while a roll-call window is open; with an empty queue nothing is in access
(R117, R121). -/
def rechoose (x : Lc) : Lc :=
  match x.queue with
  | [] => { x with access := none, phase := .idle }
  | g :: _ => { x with access := some g.arrival, phase := if x.window.isSome then .suspended else .gap }

/-- The head is chosen again when nothing is in access or the frame in access is in GAP (R117). -/
def headTakesAccess (x : Lc) : Lc := if x.phase = .idle ∨ x.phase = .gap then rechoose x else x

/-- The frame is being transmitted. -/
def Lc.isSending (x : Lc) (f : TxFrame) : Bool := decide (x.phase = .sending) && decide (x.access = some f.arrival)

/-- The older of two frames by arrival. -/
def olderFrame : Option TxFrame → TxFrame → Option TxFrame
  | none, g => some g
  | some f, g => if g.arrival < f.arrival then some g else some f

/-- The oldest class-2 frame that is not SENDING, which a full queue displaces (R116). -/
def displaceable (x : Lc) : Option TxFrame :=
  (x.queue.filter fun g => decide (g.cls = 2) && !x.isSending g).foldl olderFrame none

/-- A frame put into the queue: its arrival number, and the TAG of a frame the station originates (R106, R114). -/
def putFrame (f : TxFrame) (x : Lc) : Lc :=
  let g := { f with arrival := x.arrivals, tag := if f.deadline.isSome then f.tag else x.tag }
  { x with queue := insertFrame g x.queue, arrivals := x.arrivals + 1,
           tag := if f.deadline.isSome then x.tag else x.tag + 1 }

/-- The queue without a displaced frame; if that frame was in access the head takes access (R116). -/
def displace (old : TxFrame) (x : Lc) : Lc :=
  let y := { x with queue := removeFrame old.arrival x.queue }
  if x.access = some old.arrival then { y with access := none, phase := .idle } else y

/-- What an offer does to the transmit queue (R104, R116). -/
inductive Placement | refused | placed | displaced (old : TxFrame) | dropped
deriving DecidableEq, Repr

/-- The case an offer falls under: refused at own address 0 (R104), placed, placed after a class-2 frame is displaced, or
dropped (R116). -/
def placementOf (f : TxFrame) (s : State) : Placement :=
  if s.cfg.ownAddress = 0 then .refused
  else if s.lc.queue.length < 8 then .placed
  else if f.cls < 2 then
    match displaceable s.lc with
    | some old => .displaced old
    | none => .dropped
  else .dropped

/-- An offer carried out, TX_ABANDONED counted but its COUNTER_FULL not yet reported (R116). -/
def placeFrame (f : TxFrame) (s : State) : State :=
  match placementOf f s with
  | .refused => s
  | .placed => s.setLc (headTakesAccess (putFrame f s.lc))
  | .displaced old => addCount .txAbandoned 1 (s.setLc (headTakesAccess (putFrame f (displace old s.lc))))
  | .dropped => addCount .txAbandoned 1 s

/-- The offer brings TX_ABANDONED to its top (R116, R170). -/
def placementFills (f : TxFrame) (s : State) : Bool :=
  match placementOf f s with
  | .displaced _ | .dropped => reachesTop .txAbandoned 1 s
  | .refused | .placed => false

/-- A frame of the kind is in the transmit queue. -/
def State.queued (s : State) (k : Kind) : Bool := s.lc.queue.any fun g => decide (g.kind = k)

/-- The ALARM as it is offered; its payload is formed when its transmission begins (R115, R167). -/
def alarmFrame : TxFrame := originFrame .alarm 63 []

/-- One offer of an ALARM, met when one is queued (R115). -/
def offerAlarm (s : State) : State := if s.queued .alarm then s else placeFrame alarmFrame s

/-- COUNTER_FULL occurs because the offer of an ALARM has brought TX_ABANDONED to its top (R170): it latches, and its own ALARM
offer cannot bring the counter to its top again. -/
def counterFullByAlarm (s : State) : State :=
  if newlySets s .counterFull 0 true then offerAlarm (setPending .counterFull 0 s) else s

/-- The ALARM that a newly set flag offers (R167). -/
def announce (s : State) : State :=
  let t := offerAlarm s
  if !s.queued .alarm && placementFills alarmFrame s then counterFullByAlarm t else t

/-- An edge taken by ACU (R166): if it newly sets its flag, the set, the latch stamp and an ALARM offer. -/
def takeEdge (k : Cond) (c : Col) (rise : Bool) (s : State) : State :=
  if newlySets s k c rise then announce (setPending k c s) else s

/-- An owner reports a rise of a level (R165): in RUN, no edge when the level is already high. -/
def raise (k : Cond) (c : Col) (s : State) : State :=
  if s.inRun && !s.level k c then
    takeEdge k c true (s.setAcu { s.acu with levels := s.acu.levels ||| positionBit (k.position c) })
  else s

/-- An owner reports a fall of a level (R165): in RUN, no edge when the level is already low. -/
def lower (k : Cond) (c : Col) (s : State) : State :=
  if s.inRun && s.level k c then
    takeEdge k c false (s.setAcu { s.acu with levels := s.acu.levels &&& ~~~ positionBit (k.position c) })
  else s

/-- An owner reports an occurrence of an event-only condition (R165): in RUN, always an edge of kind rise. -/
def occur (k : Cond) (c : Col) (s : State) : State := if s.inRun then takeEdge k c true s else s

/-- An owner adds to a live counter (R169); reaching the top reports COUNTER_FULL (R170). -/
def count (k : Counter) (n : Nat) (s : State) : State :=
  if reachesTop k n s then occur .counterFull 0 (addCount k n s) else addCount k n s

/-- A block offers a frame to LC (R114, R116). -/
def offer (f : TxFrame) (s : State) : State :=
  let t := placeFrame f s
  if placementFills f s then occur .counterFull 0 t else t

/-- A reply to a request, offered as a class-0 frame, or class 1 for a CLAIM_REPLY (R114). -/
def reply (kind : Kind) (f : RxFrame) (payload : List Byte) (s : State) : State :=
  offer (replyFrame kind f payload false) s

/-! ## The pending set and the levels on the line (12.1) -/

/-- The 32 position bytes of an ALARM or of an ALARMS reply: bit 0 pending, bit 1 live level. -/
def positionBytes (s : State) : List Byte :=
  (List.range 32).map fun p =>
    BitVec.ofNat 8 (flagAt 0 (s.acu.pending.getLsbD p) + flagAt 1 (s.acu.levels.getLsbD p))

/-- The latch stamp: a presence byte and the clock value, 0 when absent (12.1, R193). -/
def latchBytes (s : State) : List Byte := flagByte s.acu.latch.isSome :: be32 (s.acu.latch.map BitVec.toNat |>.getD 0)

/-- The ALARM payload as it stands (R167, 12.1). -/
def alarmPayload (s : State) : List Byte :=
  [BitVec.ofNat 8 s.cfg.count] ++ positionBytes s ++ latchBytes s ++ be32 s.tu.clock.toNat ++ [BitVec.ofNat 8 s.tu.hops]

/-- A snapshot (R171). -/
def performSnapshot (s : State) : State :=
  s.setAcu { s.acu with copies := s.acu.live, live := .zero, stampClock := s.tu.clock, stampHops := s.tu.hops }

end Sys2Proof.Machine
end

