-- ==== Sys2Proof/Machine/Operands.lean ====
section
/-! DEFINITION. The operand forms of the frame commands: kinds and codes (Table 12-1), source classes and addressing (R104), and
the seven receive checks (R107 to R111) that every frame command passes through. -/

namespace Sys2Proof.Machine

/-- The code of a frame kind (Table 12-1). -/
def Kind.code : Kind → Byte
  | .beacon => 0x01
  | .revokePull => 0x02
  | .revokePush => 0x03
  | .revokeGap => 0x04
  | .time => 0x05
  | .dirPut => 0x06
  | .dirDrop => 0x07
  | .dirResult => 0x08
  | .rollcall => 0x09
  | .claim => 0x0A
  | .release => 0x0B
  | .claimReply => 0x0C
  | .query => 0x0D
  | .queryReply => 0x0E
  | .snapshot => 0x0F
  | .restart => 0x10
  | .reply => 0x11
  | .alarm => 0x12

/-- Every kind. -/
def allKinds : List Kind :=
  [.beacon, .revokePull, .revokePush, .revokeGap, .time, .dirPut, .dirDrop, .dirResult, .rollcall, .claim, .release,
   .claimReply, .query, .queryReply, .snapshot, .restart, .reply, .alarm]

/-- The known kind of a KIND byte (check 5). -/
def kindOf (b : Byte) : Option Kind := allKinds.find? fun k => decide (k.code = b)

/-- The results of requests (Table 12-1). -/
inductive RequestResult | done | bucketFull | queueFull | notFound | notPermitted | badSubject | badRequest
deriving DecidableEq, Repr

/-- The code of a request result (Table 12-1). -/
def RequestResult.code : RequestResult → Byte
  | .done => 0
  | .bucketFull => 1
  | .queueFull => 2
  | .notFound => 3
  | .notPermitted => 4
  | .badSubject => 5
  | .badRequest => 6

/-- Source classes (R104). -/
inductive SourceClass | none | station | vehicle | gateway
deriving DecidableEq, Repr

/-- The source class of an SRC byte (R104; log entry 13 for bytes above 63). -/
def sourceClass (src : Byte) : SourceClass :=
  if 1 ≤ src.toNat ∧ src.toNat ≤ 55 then .station
  else if 56 ≤ src.toNat ∧ src.toNat ≤ 59 then .vehicle
  else if 60 ≤ src.toNat ∧ src.toNat ≤ 62 then .gateway
  else .none

/-- The broadcast address (R104). -/
def broadcastAddress : Byte := 63

/-- The frame is directed to the station (R104): never at own address 0. -/
def directed (s : State) (f : RxFrame) : Bool := decide (s.cfg.ownAddress ≠ 0) && decide (f.dest.toNat = s.cfg.ownAddress)

/-- The frame is broadcast (R104). -/
def isBroadcast (f : RxFrame) : Bool := decide (f.dest = broadcastAddress)

/-- The kind has an owner at the station, else it is heard only (Table 6-3). -/
def Kind.owned : Kind → Bool
  | .alarm | .dirResult | .claimReply | .queryReply | .reply => false
  | .beacon | .revokePull | .revokePush | .revokeGap | .time | .dirPut | .dirDrop | .rollcall | .claim | .release
  | .query | .snapshot | .restart => true

/-- The source classes permitted for a kind (Table 6-3). -/
def Kind.permits : Kind → SourceClass → Bool
  | .beacon, c | .revokePull, c | .revokeGap, c => decide (c = .station)
  | .revokePush, c => decide (c = .station) || decide (c = .gateway)
  | .time, c | .dirPut, c | .dirDrop, c | .query, c | .snapshot, c | .restart, c => decide (c = .gateway)
  | .rollcall, c => decide (c = .vehicle) || decide (c = .gateway)
  | .claim, c | .release, c => decide (c = .vehicle)
  | .alarm, _ | .dirResult, _ | .claimReply, _ | .queryReply, _ | .reply, _ => false

/-- The kind is taken when it arrives directed (Table 6-3). -/
def Kind.takenDirected : Kind → Bool
  | .rollcall => false
  | _ => true

/-- The kind is taken when it arrives broadcast (Table 6-3). -/
def Kind.takenBroadcast : Kind → Bool
  | .beacon | .revokePush | .time | .dirPut | .dirDrop | .rollcall => true
  | _ => false

/-- The addressing under which the frame arrived is one in which its kind is taken; a BEACON is taken at any DEST (R108). -/
def addressingTaken (k : Kind) (s : State) (f : RxFrame) : Bool :=
  decide (k = .beacon) || (directed s f && k.takenDirected) || (isBroadcast f && k.takenBroadcast)

/-- What becomes of a frame that ends (Table 6-2): the state after the checks, and whether it is dispatched to its owner. -/
inductive Verdict
  | stopped (s : State)
  | dispatched (s : State)

/-- A frame has passed checks 1 and 2: its margin is the margin of last frame, LINE_SILENT falls and the silence timer restarts
(R112, R113). -/
def hearFrame (f : RxFrame) (s : State) : State :=
  lower .lineSilent 0 (s.setLc { s.lc with margin := f.margin, silence := .start })

/-- Check 6 for a known kind and a source class other than none (R109): the NOT_PERMITTED reply, a discard, or dispatch. A
BEACON from another class than station is discarded without reply (R108; log entry 14). -/
def checkSix (k : Kind) (f : RxFrame) (s : State) : Verdict :=
  let t := count .framesRxOk 1 s
  if !k.owned then .stopped t
  else if !k.permits (sourceClass f.src) then
    if directed s f && decide (k ≠ .beacon) then
      .stopped (reply .reply f [k.code, RequestResult.notPermitted.code] t)
    else .stopped t
  else if addressingTaken k s f then .dispatched t
  else .stopped t

/-- Checks 3 to 6 (R107 to R109, R111) on a frame that has passed checks 1 and 2. -/
def checkHeader (kindByte : Byte) (f : RxFrame) (s : State) : Verdict :=
  if s.cfg.ownAddress ≠ 0 ∧ f.src.toNat = s.cfg.ownAddress then
    .stopped (occur .addressClash 0 (count .framesRxOk 1 s))
  else if !directed s f && !isBroadcast f && decide (kindByte ≠ Kind.beacon.code) then
    .stopped (count .framesRxOk 1 s)
  else
    match kindOf kindByte with
    | none => .stopped (count .framesRxBad 1 s)
    | some k =>
      if sourceClass f.src = .none then .stopped (count .framesRxBad 1 s)
      else checkSix k f s

/-- The end of a frame's reception: the receive check state is free for the next (Table 6-1). -/
def endReception (s : State) : State := s.setLc { s.lc with rx := none, preamble := false }

/-- A frame that ends, judged by the receive checks in RUN; outside RUN every frame is discarded before check 1 (R110). -/
def receiveFrame (kindByte : Byte) (f : RxFrame) (s : State) : Verdict :=
  if !s.inRun then .stopped s
  else if 96 < f.payload.length then .stopped (count .framesRxBad 1 (endReception s))
  else checkHeader kindByte f (hearFrame f (endReception s))

/-- A frame command of one kind: the checks, then its owner when it is dispatched (R110). -/
def withFrame (k : Kind) (f : RxFrame) (owner : RxFrame → State → State) (s : State) : State :=
  match receiveFrame k.code f s with
  | .stopped t => t
  | .dispatched t => owner f t

/-- The bytes of a raw frame pass checks 1 and 2 (R107): no framing error, LEN at most 96, exactly 7 + LEN bytes, CRC right. -/
def rawFrameGood (r : RawFrame) : Bool :=
  !r.framingError && decide (7 ≤ r.bytes.length) && decide ((byteAt r.bytes 4).toNat ≤ 96)
    && decide (r.bytes.length = 7 + (byteAt r.bytes 4).toNat)
    && decide (fieldAt r.bytes (5 + (byteAt r.bytes 4).toNat) 2
        = (crc16 (r.bytes.take (5 + (byteAt r.bytes 4).toNat))).toNat)

/-- The header fields and payload of a raw frame. -/
def rawHeader (r : RawFrame) : RxFrame :=
  { dest := byteAt r.bytes 0, src := byteAt r.bytes 1, tag := byteAt r.bytes 3,
    payload := (r.bytes.drop 5).take (byteAt r.bytes 4).toNat, margin := r.margin }

/-- The bytes of a frame on the line (R106): preamble, start byte, header, payload, CRC-16 high byte first. -/
def frameBytes (src : Byte) (f : TxFrame) : List Byte :=
  let body := [f.dest, src, f.kind.code, f.tag, BitVec.ofNat 8 f.payload.length] ++ f.payload
  [0x55, 0x55, 0x7E] ++ body ++ be16 (crc16 body).toNat

/-- The code of a container state (Table 12-1). -/
def CcState.code : CcState → Nat
  | .idle => 0
  | .granted => 1
  | .depositing => 2
  | .full => 3
  | .held => 4
  | .lifted => 5
  | .missing => 6
  | .settling => 7
  | .fault => 8

/-- The code of a state group (Table 12-1). -/
def Group.code : Group → Nat
  | .accepting => 0
  | .full => 1
  | .held => 2
  | .out => 3
  | .fault => 4

/-- The code of a fill class (Table 12-1). -/
def FillClass.code : FillClass → Nat
  | .openClass => 0
  | .near => 1
  | .full => 2

/-- A round id that may be none, as 16 bits: 0 when none (12, Table 12-1's note). -/
def roundBits (r : Option Word16) : List Byte := be16 (r.map BitVec.toNat |>.getD 0)

/-- The bytes of an indication (12.3): type, code, cycles, window, target, end reason, CRC-8. -/
def Indication.bytes (i : Indication) : List Byte :=
  let body := [0xC9, i.code.code, BitVec.ofNat 8 i.cycles, BitVec.ofNat 8 i.window,
    BitVec.ofNat 8 (i.target.map Target.address |>.getD 0), BitVec.ofNat 8 (i.target.map Target.cont |>.getD 0),
    i.reason.map EndReason.code |>.getD 0]
  body ++ [crc8 0 body]

end Sys2Proof.Machine
end

