-- ==== Sys2Proof/Machine/StoreOps.lean ====
section
/-! DEFINITION. The shared operations of the store group: the choice of the next slot write (R61), the placing of items in the
directory write queue (R59), the offering of log records (R60, R159), and lookups in the directory image (R49). -/

namespace Sys2Proof.Machine

/-! ## The Store Controller -/

/-- The store begins its next write when it is free: the oldest staged record before the oldest queue item (R61). -/
def beginWrite (s : State) : State :=
  match s.sc.inFlight with
  | some _ => s
  | none =>
    match s.sc.staging, s.sc.queue with
    | r :: rest, _ => s.setSc { s.sc with staging := rest, inFlight := some ⟨logSlot r.index, r.image⟩ }
    | [], i :: rest => s.setSc { s.sc with queue := rest, inFlight := some i }
    | [], [] => s

/-- The places of the directory write queue (R59). -/
def queuePlaces : Nat := 16

/-- The queue has free places for a request's items (R59). -/
def queueHasRoom (n : Nat) (s : State) : Bool := decide (s.sc.queue.length + n ≤ queuePlaces)

/-- A request's items placed at the end of the queue; a free store begins its next write (R59, R61). -/
def placeItems (items : List StoreItem) (s : State) : State :=
  beginWrite (s.setSc { s.sc with queue := s.sc.queue ++ items })

/-- The image of a directory slot as the directory image stands (R59): the entry, or the empty slot image. -/
def dirSlotImage (image : List (Nat × DirWay)) (slot : Nat) : List Byte :=
  match Sparse.get slot image with
  | some w => w.entry.image
  | none => emptyDirImage

/-- CD places the items it holds while places are free, each with the content of its way as it stands (R65). -/
def placeHeld : List Nat → State → State
  | [], s => s.setCd { s.cd with held := [] }
  | slot :: rest, s =>
    if queueHasRoom 1 s then placeHeld rest (placeItems [⟨.dir slot, dirSlotImage s.cd.image slot⟩] s)
    else s.setCd { s.cd with held := slot :: rest }

/-! ## The Deposit Log -/

/-- The records of the log staging (R60). -/
def stagingPlaces : Nat := 8

/-- The last index is never given (R159). -/
def lastIndex : Nat := 4294967295

/-- The range of held records is at most 1024 long (R159). -/
def logPlaces : Nat := 1024

/-- DL's indices after a record has been taken (R159). -/
def Dl.taken (d : Dl) : Dl :=
  { oldest := if d.oldest + logPlaces < d.next + 1 then d.oldest + 1 else d.oldest, next := d.next + 1 }

/-- DL forms a record and offers it to the staging (R157, R159): taken with the next index, or lost, counted and raised when the
staging holds 8 records or no index is left (R60, R159). -/
def offerRecord (c : Col) (eAfter : Nat) (body : LogBody) (s : State) : State :=
  if s.sc.staging.length < stagingPlaces ∧ s.dl.next < lastIndex then
    let r : LogRecord := ⟨s.dl.next, s.tu.clock, s.tu.hops, c, eAfter, body⟩
    beginWrite ((s.setSc { s.sc with staging := s.sc.staging ++ [r] }).setDl s.dl.taken)
  else occur .logLost 0 (count .logLost 1 s)

/-! ## The Card Directory -/

/-- The bucket of a card: its number modulo 256 (R47). -/
def bucketOf (card : Word32) : Nat := card.toNat % 256

/-- The way of an image entry holds the card, in the card's bucket (R47, R49). -/
def holdsCard (card : Word32) (p : Nat × DirWay) : Bool :=
  decide (p.1 / 8 = bucketOf card) && decide (p.2.entry.card = card)

/-- The lookup of R49: the slot and way that hold the card, or none. -/
def lookupCard (card : Word32) (s : State) : Option (Nat × DirWay) := s.cd.image.find? (holdsCard card)

/-- The lowest-numbered empty way of a bucket, as its slot (R53). -/
def emptyWay (bucket : Nat) (s : State) : Option Nat :=
  ((List.range 8).map (bucket * 8 + ·)).find? fun slot => (Sparse.get slot s.cd.image).isNone

/-- The directory image with a way set. -/
def setWay (slot : Nat) (w : DirWay) (s : State) : State := s.setCd { s.cd with image := Sparse.put slot w s.cd.image }

/-- The usage counter of the card's slot is incremented, saturating at 255, when the card is found (R50). -/
def countUsage (card : Word32) (s : State) : State :=
  match lookupCard card s with
  | some (slot, w) => setWay slot { w with usage := min 255 (w.usage + 1) } s
  | none => s

/-- Every usage counter is 0 (R50, R138). -/
def zeroUsage (s : State) : State :=
  s.setCd { s.cd with image := s.cd.image.map fun p => (p.1, { p.2 with usage := 0 }) }

end Sys2Proof.Machine
end

