-- ==== Sys2Proof/Machine/BeaconOps.lean ====
section
/-! DEFINITION. NU's shared operations: the published summary of a container (R125), the offer of a BEACON (R126) and the early
beacon that a summary change calls for (R127). -/

namespace Sys2Proof.Machine

/-- The state group of a container state (Table 1-2). -/
def CcState.group : CcState → Group
  | .idle | .granted | .depositing => .accepting
  | .full => .full
  | .held => .held
  | .lifted | .missing | .settling => .out
  | .fault => .fault

/-- The published state group (R125): FULL for a GRANTED or DEPOSITING container whose class is FULL. -/
def publishedGroup (st : CcState) (cls : FillClass) : Group :=
  match st, cls with
  | .granted, .full | .depositing, .full => .full
  | _, _ => st.group

/-- The fill percent of an estimate (R40). -/
def fillPercent (e : Nat) : Nat := e / 10

/-- The five bytes of a container's summary (R125, 12.1). -/
def summaryBytes (s : State) (c : Col) : List Byte :=
  let x := s.cc.get c
  let f := s.fe.get c
  [BitVec.ofNat 8 ((s.ccfg c).fraction + 8 * (publishedGroup x.state f.cls).code + 64 * f.cls.code),
   BitVec.ofNat 8 (fillPercent f.e),
   BitVec.ofNat 8 (flagAt 0 f.unknown + flagAt 1 x.lastEmptied.isNone)] ++ roundBits x.lastEmptied

/-- The columns in use, in index order. -/
def State.usedCols (s : State) : List Col := cols.filter s.inUse

/-- The BEACON payload as it stands (R128, 12.1). -/
def beaconPayload (s : State) : List Byte :=
  [BitVec.ofNat 8 s.cfg.ownAddress, s.nu.seq] ++ be32 s.tu.clock.toNat ++ [BitVec.ofNat 8 s.tu.hops] ++ be32 s.ru.mark
    ++ [flagByte (decide (s.acu.pending ≠ 0)), BitVec.ofNat 8 s.cfg.count] ++ s.usedCols.flatMap (summaryBytes s)

/-- The BEACON as it is offered; its payload is formed when its transmission begins (R115). -/
def beaconFrame : TxFrame := originFrame .beacon 63 []

/-- NU offers a BEACON, met when one is queued (R115), and restarts the periodic timer with the interval and a jitter (R126). -/
def offerBeacon (s : State) : State :=
  let t := if s.queued .beacon then s else offer beaconFrame s
  let d := drawUpTo (s.cfg.beaconInterval * 25 / 100) t
  d.2.setNu { d.2.nu with periodicLeft := (s.cfg.beaconInterval + d.1) * second }

/-- A summary change reported to NU in RUN calls for an early beacon (R127): offered at once when the holdoff timer stands at
5 s, else the early flag is set. -/
def summaryChange (s : State) : State :=
  if s.inRun then
    if s.nu.holdoff.running then s.setNu { s.nu with early := true } else offerBeacon s
  else s

end Sys2Proof.Machine
end

