-- ==== Sys2Proof/Machine/GrantOps.lean ====
section
/-! DEFINITION. AU's shared operations: indications (R68), the count of cycles (R80) and the end of a grant (R81). -/

namespace Sys2Proof.Machine

/-- An indication is sent on a channel: at once when it is not sending, else it waits and replaces any waiting one (R68). -/
def Au.send (i : Indication) (x : Au) : Au :=
  if x.sending.isSome then { x with waiting := some i } else { x with sending := some i }

/-- An indication formed for a channel becomes its last indication and is sent (R68). -/
def indicate (c : Col) (i : Indication) (s : State) : State :=
  s.setAu c (({ s.au.get c with last := i } : Au).send i)

/-- The last indication is sent again, unchanged (R67, R68). -/
def repeatLast (c : Col) (s : State) : State := s.setAu c ((s.au.get c).send (s.au.get c).last)

/-- AU learns from CC that the grant of a container has ended (R81): the GRANT_END record, the END indication, the record
absent. -/
def grantEnded (c : Col) (reason : EndReason) (s : State) : State :=
  match (s.au.get c).grant with
  | none => s
  | some g =>
    let t := indicate c ⟨.endGrant, g.done, 0, none, some reason⟩
      (offerRecord c (s.fe.get c).e (.grantEnd g.card g.done reason) s)
    t.setAu c { t.au.get c with grant := none }

/-- AU counts a completed cycle in the grant, and for a metered grant in the card's usage (R80). -/
def countCycle (c : Col) (s : State) : State :=
  match (s.au.get c).grant with
  | none => s
  | some g =>
    let t := s.setAu c { s.au.get c with grant := some { g with done := g.done + 1 } }
    if g.metered then countUsage g.card t else t

/-- The cycles of the container's grant are used up (R80). -/
def cyclesUsedUp (c : Col) (s : State) : Bool :=
  match (s.au.get c).grant with
  | none => false
  | some g => decide (g.done = g.allowed)

/-- The window timer of the container's grant changed. -/
def setWindow (c : Col) (w : Timer → Timer) (s : State) : State :=
  s.setAu c { s.au.get c with grant := (s.au.get c).grant.map fun g => { g with window := w g.window } }

end Sys2Proof.Machine
end

