-- ==== Sys2Proof/Machine/ColumnOps.lean ====
section
/-! DEFINITION. CC's shared operations: entry to a state with its lock drive (R3, R4, R6), the end of a grant (R12), curtailment
(R11), and what FE reports to CC (R2, R16). -/

namespace Sys2Proof.Machine

/-- The lock sense agrees with the lock drive (R4). -/
def Cc.agrees (x : Cc) : Bool :=
  match x.sense, x.drive with
  | .engaged, .engage | .released, .release => true
  | .engaged, .release | .released, .engage => false

/-- The lock drive of a state (R3, Table 1-2). -/
def CcState.drive : CcState → Drive
  | .granted | .depositing => .release
  | .idle | .full | .held | .lifted | .missing | .settling | .fault => .engage

/-- A timer that runs on from the value it kept (R4, R77). -/
def Timer.runOn (t : Timer) : Timer := { t with running := true }

/-- The lock drive is set; a change of drive acts on the confirmation timer and on a standing LOCK_FAULT (R3, R4). -/
def setDrive (c : Col) (d : Drive) (s : State) : State :=
  let x := s.cc.get c
  if x.drive = d then s
  else
    let y := { x with drive := d }
    let z := { y with confirm := ⟨0, !y.agrees && decide (y.drum = .closed)⟩ }
    if y.agrees then lower .lockFault c (s.setCc c z) else s.setCc c z

/-- The container enters a state: the drive is set, the hold timer is stopped on an exit from HELD, and a change of state group
is reported to NU (R3, R18, R21). DESIGN CHOICE: NU hears of it after the fall of LOCK_FAULT that the drive brings, the spec giving
the reports of one event no order (log entry 66). -/
def enterState (c : Col) (st : CcState) (s : State) : State :=
  let x := s.cc.get c
  let y := { x with state := st, hold := if x.state = .held ∧ st ≠ .held then x.hold.stop else x.hold }
  let t := setDrive c st.drive (s.setCc c y)
  if x.state.group = st.group then t else summaryChange t

/-- The state the container goes to by class (01 section 1.3). -/
def stateByClass (cls : FillClass) : CcState := if cls = .full then .full else .idle

/-- The container goes to IDLE or FULL by class. -/
def goByClass (c : Col) (s : State) : State := enterState c (stateByClass (s.cc.get c).cls) s

/-- A container in FAULT whose lock sense reads ENGAGED and whose drum reads CLOSED leaves it by class, LOCK_FAULT cleared if it
stands (R6). DESIGN CHOICE: the fall is reported before the summary change (log entry 66). -/
def leaveFault (c : Col) (s : State) : State :=
  let x := s.cc.get c
  if x.state = .fault ∧ x.sense = .engaged ∧ x.drum = .closed then goByClass c (lower .lockFault c s) else s

/-- The container enters FAULT, and leaves it at once when its pair is already complete (R6). -/
def goFault (c : Col) (s : State) : State := leaveFault c (enterState c .fault s)

/-- The settle-failure count that stands in SETTLING is discarded (R8, R13). -/
def discardSettleFailures (c : Col) (s : State) : State := s.setCc c { s.cc.get c with settleFailures := 0 }

/-- A claim is dropped: the round id becomes none (R5, R8, R18). -/
def dropClaim (c : Col) (s : State) : State := s.setCc c { s.cc.get c with roundId := none }

/-- The container enters HELD for a round, the hold timer from 0 (R12, R17). -/
def enterHeld (c : Col) (round : Word16) (s : State) : State :=
  enterState c .held
    (s.setCc c { s.cc.get c with roundId := some round, waitingRound := none, hold := .start })

/-- CC's own fields at the end of a grant (R11, R12): no pending end reason, no opening. DESIGN CHOICE: the opening time is 0 and
stopped from there on, for which the spec gives no value (log entry 61). -/
def grantFieldsCleared (c : Col) (s : State) : State :=
  s.setCc c { s.cc.get c with pendingEnd := none, opening := .zero }

/-- A grant ends in GRANTED or DEPOSITING for a reason (R12): AU is told, and the container leaves to HELD for a waiting round,
else by class. -/
def endGrant (c : Col) (reason : EndReason) (s : State) : State :=
  let t := grantFieldsCleared c (grantEnded c reason s)
  match (t.cc.get c).waitingRound with
  | some round => enterHeld c round t
  | none => goByClass c t

/-- A curtailment request (R11). -/
def curtail (c : Col) (reason : EndReason) (s : State) : State :=
  let x := s.cc.get c
  match x.state with
  | .granted => endGrant c reason s
  | .depositing => if x.pendingEnd.isNone then s.setCc c { x with pendingEnd := some reason } else s
  | .idle | .full | .held | .lifted | .missing | .settling | .fault => s

/-- The class as CC stores it (R2). -/
def storeClass (c : Col) (cls : FillClass) (s : State) : State := s.setCc c { s.cc.get c with cls := cls }

/-- A class report from FE that does not come from a deposit cycle (R2). -/
def classReport (c : Col) (cls : FillClass) (s : State) : State :=
  let t := storeClass c cls s
  match (s.cc.get c).state, cls with
  | .idle, .full => enterState c .full t
  | .full, .near | .full, .openClass => enterState c .idle t
  | .granted, .full | .depositing, .full => curtail c .curtailedFull t
  | _, _ => t

/-- An acceptance reported by FE (R16). -/
def acceptanceReport (c : Col) (s : State) : State :=
  if (s.cc.get c).state = .settling then goByClass c s else s

/-- An echo failure reported by FE (R16): the third in SETTLING leaves it by class. -/
def failureReport (c : Col) (s : State) : State :=
  let x := s.cc.get c
  if x.state = .settling then
    let t := s.setCc c { x with settleFailures := x.settleFailures + 1 }
    if 3 ≤ x.settleFailures + 1 then goByClass c t else t
  else s

/-- A claim that RR takes for the container (R17). -/
def takeClaim (c : Col) (round : Word16) (s : State) : State :=
  let x := s.cc.get c
  match x.state with
  | .idle | .full => enterHeld c round s
  | .granted | .depositing =>
    if x.waitingRound.isNone then curtail c .curtailedClaim (s.setCc c { x with waitingRound := some round }) else s
  | .held | .lifted | .missing | .settling | .fault => s

/-- A release that RR takes, or a lapse: the container leaves HELD by class with no round id (R17, R18). -/
def leaveHeld (c : Col) (s : State) : State := goByClass c (dropClaim c s)

end Sys2Proof.Machine
end

