-- ==== Sys2Proof/Machine/FillOps.lean ====
section
/-! DEFINITION. EU's and FE's shared operations: requests and the arbiter (R23 to R27), the result of a measurement (R29 to R39),
the estimate and the class (R40 to R45). -/

namespace Sys2Proof.Machine

/-! ## The echo front end -/

/-- The temperature used for the speed of sound (R26). -/
def clampDegrees (t : Int) : Int := max (-40) (min 85 t)

/-- The speed of sound in tenths of m/s at a used temperature (R26). -/
def speedOfSound (degrees : Int) : Nat := (3313 + 6 * degrees).toNat

/-- The blanking time in microseconds (R27). -/
def blankingTime (c10 : Nat) : Nat := 250 * 20000 / c10

/-- The measurement that begins at a held temperature (R27). -/
def newMeasurement (c : Col) (held : Int) : Measurement :=
  { cont := c, phase := .burst, degrees := clampDegrees held, c10 := speedOfSound (clampDegrees held),
    blanking := blankingTime (speedOfSound (clampDegrees held)), elapsed := 0 }

/-- A measurement of a container begins (R25, R27). -/
def beginMeasurement (c : Col) (s : State) : State :=
  let x := s.eu.cols.get c
  let t := s.setEu { s.eu with
    cols := s.eu.cols.set c { x with request := false, periodic := .start }
    pointer := c.val
    inFlight := some (newMeasurement c s.eu.temperature) }
  t.setFe c { t.fe.get c with nAtStart := (t.fe.get c).nd }

/-- The columns in the arbiter's cyclic order: after the pointer, ending with the pointer (R25). -/
def arbiterOrder (pointer count : Nat) : List Col :=
  (List.range count).map fun k => Fin.ofNat 4 ((pointer + 1 + k) % count)

/-- When EU is free and a request flag is set, the arbiter serves one container at once (R25); EU serves in RUN (R23). -/
def serve (s : State) : State :=
  if s.inRun ∧ s.eu.inFlight = none then
    match (arbiterOrder s.eu.pointer s.cfg.count).find? fun c => (s.eu.cols.get c).request with
    | some c => beginMeasurement c s
    | none => s
  else s

/-- A cause sets a container's request flag (R23): ignored while the container reads ABSENT and outside RUN. -/
def setRequest (c : Col) (s : State) : State :=
  if s.serves c ∧ (s.cc.get c).present = .present then s.setEuCol c { s.eu.cols.get c with request := true } else s

/-- A cause sets the request flag, and a free EU serves (R23, R25). -/
def requestMeasurement (c : Col) (s : State) : State := serve (setRequest c s)

/-- EU becomes free (R25). -/
def freeEu (s : State) : State := serve (s.setEu { s.eu with inFlight := none })

/-! ## The estimate and the class -/

/-- The estimate (R40). -/
def estimate (pm nd inc : Nat) : Nat := min 1000 (pm + nd * inc)

/-- The class after a recomputation (R42). -/
def nextClass (before : FillClass) (e tNear tFull : Nat) : FillClass :=
  match before with
  | .openClass => if tFull ≤ e then .full else if tNear ≤ e then .near else .openClass
  | .near => if tFull ≤ e then .full else if e + 30 < tNear then .openClass else .near
  | .full => if tFull ≤ e + 30 then .full else if e + 30 < tNear then .openClass else .near

/-- E and the class recomputed (R40, R42). -/
def Fe.recompute (x : Fe) (tFull : Nat) : Fe :=
  let e := estimate x.pm x.nd x.inc
  { x with e := e, cls := nextClass x.cls e x.tNear tFull }

/-- FE's fields replaced and E and the class recomputed. -/
def recomputeFe (c : Col) (x : Fe) (s : State) : State := s.setFe c (x.recompute (s.ccfg c).tFull)

/-- A changed class is reported to CC and to NU (R43), when it does not come from a deposit cycle. DESIGN CHOICE: to CC first (log
entry 66). -/
def reportClass (c : Col) (before : FillClass) (s : State) : State :=
  let now := (s.fe.get c).cls
  if now = before then s else summaryChange (classReport c now s)

/-- A completed deposit cycle at FE (R41, R43): n_d counts, the settle timer starts, a class change is stored by CC without
curtailment and reported to NU, and a move to FULL sets the request flag. -/
def feDeposit (c : Col) (s : State) : State :=
  let x := s.fe.get c
  let t := recomputeFe c { x with nd := min 255 (x.nd + 1) } s
  let u := t.setEuCol c { t.eu.cols.get c with settle := .start }
  let now := (u.fe.get c).cls
  if now = x.cls then u
  else
    let v := summaryChange (storeClass c now u)
    if now = .full then requestMeasurement c v else v

/-- The fill reset at return (R44). -/
def fillReset (c : Col) (s : State) : State :=
  let x := s.fe.get c
  reportClass c x.cls
    (recomputeFe c { x with pm := 0, nd := 0, history := [], suspect := 0, emptied := true } s)

/-! ## From echo to per-mille -/

/-- The distance to the reflector in millimetres (R32). -/
def echoDistance (t c10 : Nat) : Nat := t * c10 / 20000

/-- The raw per-mille of an echo result, none for a failure (R33). -/
def rawPerMille (result : EchoResult) (c10 dFloor h : Nat) : Option Nat :=
  match result with
  | .near => some 1000
  | .noEcho => none
  | .time t =>
    let d := echoDistance t c10
    if dFloor + 200 < d then none
    else if dFloor ≤ d then some 0
    else some (min 1000 ((dFloor - d) * 1000 / h))

/-- The middle of three values (R36). -/
def median3 (a b c : Nat) : Nat := max (min a b) (min (max a b) c)

/-- A reading appended to the history, which keeps the three newest (R35). -/
def appendReading (r : Nat) (history : List Nat) : List Nat :=
  if 3 ≤ history.length then history.drop (history.length - 2) ++ [r] else history ++ [r]

/-- The candidate of a history (R36). -/
def candidate : List Nat → Nat
  | [] => 0
  | [a] => a
  | [a, b] => max a b
  | a :: b :: c :: _ => median3 a b c

/-- The candidate is suspect (R37). -/
def Fe.isSuspect (x : Fe) (m : Nat) : Bool := !x.emptied && !x.unknown && decide (m + 250 < x.pm)

/-- A failure of a measurement (R34). DESIGN CHOICE: ECHO_FAIL is reported before CC acts on the failure (log entry 66). -/
def echoFailure (c : Col) (s : State) : State :=
  let x := s.fe.get c
  let n := min 255 (x.echoFail + 1)
  let t := count .echoFails 1 (s.setFe c { x with echoFail := n })
  failureReport c (if n = 6 then raise .echoFail c t else t)

/-- The acceptance of a candidate (R38). -/
def acceptCandidate (c : Col) (m : Nat) (s : State) : State :=
  let x := s.fe.get c
  acceptanceReport c (reportClass c x.cls
    (recomputeFe c { x with pm := m, nd := x.nd - x.nAtStart, unknown := false, emptied := false } s))

/-- The acceptance of the fourth suspect candidate as an inferred emptying (R39, R20). -/
def inferEmptying (c : Col) (m : Nat) (s : State) : State :=
  let t := acceptCandidate c m s
  let u := t.setFe c { t.fe.get c with suspect := 0 }
  let v := u.setCc c { u.cc.get c with depositsE := (u.fe.get c).nd }
  occur .unseenEmptying 0 (offerRecord c (v.fe.get c).e .inferredEmptied v)

/-- A valid reading (R35 to R37). -/
def validReading (c : Col) (r : Nat) (s : State) : State :=
  let x := s.fe.get c
  let y := { x with echoFail := 0, history := appendReading r x.history }
  let t := lower .echoFail c (s.setFe c y)
  let m := candidate y.history
  if y.isSuspect m then
    let u := t.setFe c { t.fe.get c with suspect := y.suspect + 1 }
    if y.suspect + 1 < 4 then u else inferEmptying c m u
  else acceptCandidate c m (t.setFe c { t.fe.get c with suspect := 0 })

/-- FE takes an echo result (R33). -/
def takeEchoResult (c : Col) (result : EchoResult) (c10 : Nat) (s : State) : State :=
  match rawPerMille result c10 (s.ccfg c).dFloor (s.fe.get c).h with
  | some r => validReading c r s
  | none => echoFailure c s

/-- The measurement in flight ends with a result: FE takes it, then EU becomes free (R29). -/
def endMeasurement (m : Measurement) (result : EchoResult) (s : State) : State :=
  freeEu (takeEchoResult m.cont result m.c10 s)

end Sys2Proof.Machine
end

