-- ==== Sys2Proof/Machine/ColumnInputs.lean ====
section
/-! DEFINITION. The debounced input events of a column in RUN (R1, R4 to R10, R13, R15), shared by the input commands and by an
input that first settles in RUN (R188). -/

namespace Sys2Proof.Machine

/-- The fields of CC that a drum OPEN event sets in every state (R4, R8, R10). -/
def Cc.drumOpened (x : Cc) : Cc :=
  { x with drum := .opened, drumSettled := true, confirm := x.confirm.stop, drumTimer := .start }

/-- The drum opens in GRANTED (R8, R77): DEPOSITING, the opening time from 0, the window timer stopped. -/
def openUnderGrant (c : Col) (s : State) : State :=
  setWindow c Timer.stop (enterState c .depositing (s.setCc c { s.cc.get c with opening := .start }))

/-- A drum OPEN event in RUN (R8). DESIGN CHOICE: DRUM_FORCED is reported before the summary change (log entry 66). -/
def drumOpenEvent (c : Col) (s : State) : State :=
  let t := s.setCc c (s.cc.get c).drumOpened
  match (s.cc.get c).state with
  | .granted => openUnderGrant c t
  | .idle | .full => goFault c (occur .drumForced c t)
  | .settling => goFault c (discardSettleFailures c (occur .drumForced c t))
  | .held => goFault c (dropClaim c (occur .drumForced c t))
  | .fault => occur .drumForced c t
  | .depositing | .lifted | .missing => t

/-- The fields of CC that a drum CLOSED event sets in every state (R4, R10): while the sense disagrees the confirmation timer runs
on from the value it kept, also from the 2 s of an expiry already taken (log entry 48). -/
def Cc.drumShut (x : Cc) : Cc :=
  let y := { x with drum := .closed, drumSettled := true, drumTimer := .zero }
  if y.agrees then y else { y with confirm := y.confirm.runOn }

/-- A completed deposit cycle (R9): D_e and DEPOSITS, then FE, then AU. -/
def completeCycle (c : Col) (s : State) : State :=
  let x := s.cc.get c
  countCycle c (feDeposit c
    (count (.deposits c) 1 (s.setCc c { x with depositsE := min 65535 (x.depositsE + 1) })))

/-- The container returns from DEPOSITING to GRANTED (R9, R77): the window timer starts again after a cycle, or runs on.
DESIGN CHOICE: the opening time stops and keeps its value (log entry 61). -/
def returnToGranted (c : Col) (cycle : Bool) (s : State) : State :=
  setWindow c (fun w => if cycle then .start else w.runOn)
    (enterState c .granted (s.setCc c { s.cc.get c with opening := (s.cc.get c).opening.stop }))

/-- The outcome of a closing in DEPOSITING (R9): `cycle`, a cycle was completed; `fullBefore`, the class was FULL before it. -/
def decideClosing (c : Col) (cycle fullBefore : Bool) (s : State) : State :=
  match (s.cc.get c).pendingEnd with
  | some reason => endGrant c reason s
  | none =>
    if cycle && cyclesUsedUp c s then endGrant c .cycles s
    else if cycle && !fullBefore && decide ((s.fe.get c).cls = .full) then endGrant c .curtailedFull s
    else returnToGranted c cycle s

/-- The end of an opening in DEPOSITING (R9). -/
def endOpening (c : Col) (s : State) : State :=
  let fullBefore := decide ((s.fe.get c).cls = .full)
  if minOpening ≤ (s.cc.get c).opening.us then decideClosing c true fullBefore (completeCycle c s)
  else decideClosing c false fullBefore s

/-- A drum CLOSED event in RUN (R6, R9, R10). DESIGN CHOICE: the fall of DRUM_HELD is reported first (log entry 66). -/
def drumClosedEvent (c : Col) (s : State) : State :=
  let t := lower .drumHeld c (s.setCc c (s.cc.get c).drumShut)
  match (s.cc.get c).state with
  | .depositing => endOpening c t
  | .fault => leaveFault c t
  | .idle | .granted | .full | .held | .lifted | .missing | .settling => t

/-- The lock sense as it reads, with the confirmation timer of R4. -/
def Cc.sensed (level : LockLevel) (x : Cc) : Cc :=
  let y := { x with sense := level, senseSettled := true }
  { y with confirm := ⟨0, !y.agrees && decide (y.drum = .closed)⟩ }

/-- A lock sense event in RUN (R4, R6). -/
def lockSenseEvent (c : Col) (level : LockLevel) (s : State) : State :=
  let y := (s.cc.get c).sensed level
  let t := s.setCc c y
  leaveFault c (if y.agrees then lower .lockFault c t else t)

/-- EU's part of a container ABSENT event (R23, R30): the request flag and the settle and return timers cleared, and a
measurement of this container discarded. -/
def euAbsent (c : Col) (s : State) : State :=
  let t := s.setEuCol c { s.eu.cols.get c with request := false, settle := .zero, ret := .zero }
  if t.eu.inFlight.any fun m => decide (m.cont = c) then freeEu t else t

/-- The round id in LIFTED (R13): kept from HELD, the waiting one of a grant, else 0. -/
def liftRound (x : Cc) : Word16 :=
  match x.state with
  | .held => x.roundId.getD 0
  | .granted | .depositing => x.waitingRound.getD 0
  | _ => 0

/-- The lift is unclaimed (R13). -/
def liftUnclaimed (x : Cc) : Bool :=
  match x.state with
  | .held => false
  | .granted | .depositing => x.waitingRound.isNone
  | _ => true

/-- The lift of a container (R13), from any state other than LIFTED and MISSING. DESIGN CHOICE: the opening time is then 0 and
stopped, the drum closed or not (log entry 61); the end of a grant, the summary change and UNCLAIMED_LIFT are reported in this order
(log entry 66). -/
def liftContainer (c : Col) (s : State) : State :=
  let x := s.cc.get c
  let t := if x.state = .granted ∨ x.state = .depositing then grantEnded c .lifted s else s
  let u := t.setCc c { t.cc.get c with
    roundId := some (liftRound x), waitingRound := none, pendingEnd := none, opening := .zero
    lift := .start, fillBefore := (s.fe.get c).e, settleFailures := 0 }
  let v := enterState c .lifted u
  if liftUnclaimed x then raise .unclaimedLift c v else v

/-- A container ABSENT event in RUN (R13, R23, R30). -/
def containerAbsentEvent (c : Col) (s : State) : State :=
  let t := s.setCc c { s.cc.get c with present := .absent, presentSettled := true }
  let u := match (s.cc.get c).state with
    | .lifted | .missing => t
    | .idle | .granted | .depositing | .full | .held | .settling | .fault => liftContainer c t
  euAbsent c u

/-- The record of a return (R15, R158), formed before any field is changed. -/
def emptiedBody (x : Cc) : LogBody :=
  .emptied (x.roundId.getD 0) x.fillBefore (x.lift.us / second) x.depositsE

/-- Where a returned container goes (R15): SETTLING, or FAULT with the drum open or the lock sense disagreeing. DRUM_FORCED is
reported before the change of state group (log entry 66). -/
def afterReturn (c : Col) (s : State) : State :=
  let x := s.cc.get c
  match x.drum, x.sense with
  | .opened, _ => goFault c (occur .drumForced c s)
  | .closed, .released => goFault c s
  | .closed, .engaged => enterState c .settling (s.setCc c { x with settleFailures := 0 })

/-- The return of a container from LIFTED or MISSING (R15). -/
def returnContainer (c : Col) (s : State) : State :=
  let recorded := offerRecord c 0 (emptiedBody (s.cc.get c)) s
  let cleared := lower .unclaimedLift c (lower .containerMissing c recorded)
  let emptied := fillReset c cleared
  let x := emptied.cc.get c
  let closed2 := emptied.setCc c { x with
    depositsE := 0, lastEmptied := x.roundId, roundId := none, lift := x.lift.stop }
  let asked := closed2.setEuCol c { closed2.eu.cols.get c with ret := .start }
  afterReturn c (summaryChange asked)

/-- A container PRESENT event in RUN (R15). -/
def containerPresentEvent (c : Col) (s : State) : State :=
  let t := s.setCc c { s.cc.get c with present := .present, presentSettled := true }
  match (s.cc.get c).state with
  | .lifted | .missing => returnContainer c t
  | .idle | .granted | .depositing | .full | .held | .settling | .fault => t

/-- The reading of one input of a column. -/
def inputReads (x : Cc) : InputLevel → Bool
  | .drum l => decide (x.drum = l)
  | .lock l => decide (x.sense = l)
  | .present l => decide (x.present = l)

/-- The input has settled since STARTING began (R1, R188). -/
def Cc.settled (x : Cc) : InputLevel → Bool
  | .drum _ => x.drumSettled
  | .lock _ => x.senseSettled
  | .present _ => x.presentSettled

/-- The debounced level set with no event (R1). -/
def Cc.withLevel (x : Cc) : InputLevel → Cc
  | .drum l => { x with drum := l, drumSettled := true }
  | .lock l => { x with sense := l, senseSettled := true }
  | .present l => { x with present := l, presentSettled := true }

/-- The input event of a level in RUN (R1). -/
def inputEvent (c : Col) (s : State) : InputLevel → State
  | .drum .opened => drumOpenEvent c s
  | .drum .closed => drumClosedEvent c s
  | .lock l => lockSenseEvent c l s
  | .present .absent => containerAbsentEvent c s
  | .present .present => containerPresentEvent c s

/-- A change of a debounced level (R1): in RUN an input event, in STARTING and SAFE a change of the level alone (R1, R186); a
level that already reads so is no change. -/
def inputChange (c : Col) (level : InputLevel) (s : State) : State :=
  if s.serves c then
    if inputReads (s.cc.get c) level then s else inputEvent c s level
  else if s.cl.powered && !s.inRun then s.setCc c ((s.cc.get c).withLevel level)
  else s

/-- A first settling of an input (R1, R188): in STARTING and SAFE it sets the level, also while RESET_N is held low, the debounce of
STARTING being taken to begin with the fall of RESET_N (log entry 59); in RUN it is an input event when the level differs from the
fixed one that was taken. -/
def inputSettles (c : Col) (level : InputLevel) (s : State) : State :=
  if s.serves c then
    if (s.cc.get c).settled level then s
    else if inputReads (s.cc.get c) level then s.setCc c ((s.cc.get c).withLevel level)
    else inputEvent c s level
  else if s.cl.powered && !s.inRun then s.setCc c ((s.cc.get c).withLevel level)
  else s

end Sys2Proof.Machine
end

