-- ==== Sys2Proof/Machine/Column.lean ====
section
/-! DEFINITION. The meanings of the column's input commands and timer expiries (chapter 1). -/

namespace Sys2Proof.Machine

/-- INPUT_LEVEL_SETTLED (R1, R188). -/
def execInputLevelSettled (after : Nat) (c : Col) (level : InputLevel) (s : State) : Host.Outcome State Fault Refusal :=
  .next (inputSettles c level (s.advance after))

/-- DRUM_OPEN (R8). -/
def execDrumOpen (after : Nat) (c : Col) (s : State) : Host.Outcome State Fault Refusal :=
  .next (inputChange c (.drum .opened) (s.advance after))

/-- DRUM_CLOSED (R9). -/
def execDrumClosed (after : Nat) (c : Col) (s : State) : Host.Outcome State Fault Refusal :=
  .next (inputChange c (.drum .closed) (s.advance after))

/-- LOCK_SENSE_ENGAGED (R4, R6). -/
def execLockSenseEngaged (after : Nat) (c : Col) (s : State) : Host.Outcome State Fault Refusal :=
  .next (inputChange c (.lock .engaged) (s.advance after))

/-- LOCK_SENSE_RELEASED (R4). -/
def execLockSenseReleased (after : Nat) (c : Col) (s : State) : Host.Outcome State Fault Refusal :=
  .next (inputChange c (.lock .released) (s.advance after))

/-- CONTAINER_ABSENT (R13). -/
def execContainerAbsent (after : Nat) (c : Col) (s : State) : Host.Outcome State Fault Refusal :=
  .next (inputChange c (.present .absent) (s.advance after))

/-- CONTAINER_PRESENT (R15). -/
def execContainerPresent (after : Nat) (c : Col) (s : State) : Host.Outcome State Fault Refusal :=
  .next (inputChange c (.present .present) (s.advance after))

/-- A confirmation expiry in GRANTED (R5): the grant ends with reason WINDOW and the container goes to FAULT. -/
def failGrant (c : Col) (s : State) : State :=
  let t := grantFieldsCleared c (grantEnded c .window s)
  goFault c (t.setCc c { t.cc.get c with waitingRound := none })

/-- The effect of a confirmation expiry (R5, R8): LOCK_FAULT rises, and the container goes to FAULT from the states of R5's table. The
timer stands at 2 s, stopped, until an event of R4 acts on it (log entry 48). DESIGN CHOICE: LOCK_FAULT is reported before the end of
a grant and the summary change (log entry 66). -/
def confirmationExpires (c : Col) (s : State) : State :=
  let x := s.cc.get c
  let t := raise .lockFault c (s.setCc c { x with confirm := .stoppedAt confirmLimit })
  match x.state with
  | .idle | .full => goFault c t
  | .settling => goFault c (discardSettleFailures c t)
  | .granted => failGrant c t
  | .held => goFault c (dropClaim c t)
  | .depositing | .lifted | .missing | .fault => t

/-- CONFIRMATION_TIMER_EXPIRY (R5): taken while the timer runs. -/
def execConfirmationTimerExpiry (after : Nat) (c : Col) (s : State) : Host.Outcome State Fault Refusal :=
  let t := s.advance after
  .next (if t.serves c && (t.cc.get c).confirm.running then confirmationExpires c t else t)

/-- DRUM_HELD_EXPIRY (R10): taken while the drum reads OPEN and the timer runs. -/
def execDrumHeldExpiry (after : Nat) (c : Col) (s : State) : Host.Outcome State Fault Refusal :=
  let t := s.advance after
  let x := t.cc.get c
  .next (if t.serves c && decide (x.drum = .opened) && x.drumTimer.running then
    raise .drumHeld c (t.setCc c { x with drumTimer := .stoppedAt drumHeldLimit }) else t)

/-- The lift limit in microseconds (R14). -/
def State.liftLimitUs (s : State) : Nat := s.cfg.liftLimit * second

/-- LIFT_LIMIT_EXPIRY (R14): taken in LIFTED; the lift timer counts on. -/
def execLiftLimitExpiry (after : Nat) (c : Col) (s : State) : Host.Outcome State Fault Refusal :=
  let t := s.advance after
  let x := t.cc.get c
  .next (if t.serves c && decide (x.state = .lifted) then
    raise .containerMissing c
      (enterState c .missing (t.setCc c { x with lift := { x.lift with us := max x.lift.us t.liftLimitUs } }))
    else t)

/-- HOLD_TIMER_EXPIRY (R18, R150): taken in HELD. -/
def execHoldTimerExpiry (after : Nat) (c : Col) (s : State) : Host.Outcome State Fault Refusal :=
  let t := s.advance after
  let x := t.cc.get c
  .next (if t.serves c && decide (x.state = .held) then
    leaveHeld c (count .claimLapsed 1 (t.setCc c { x with hold := .stoppedAt (t.cfg.holdTime * second) })) else t)

end Sys2Proof.Machine
end

