-- ==== Sys2Proof/Machine/RevocationOps.lean ====
section
/-! DEFINITION. RU's shared operations: pulls (R96, R97), the application of records (R93), the jump (R95) and the effect of a
BLOCK on a grant (R82). -/

namespace Sys2Proof.Machine

/-! ## The list -/

/-- The oldest sequence (R90). -/
def Ru.oldest (x : Ru) : Nat := x.mark + 1 - x.list.length

/-- The records of the list at most (R90). -/
def listPlaces : Nat := 64

/-- A record appended (R90). -/
def Ru.append (r : RevRecord) (x : Ru) : Ru :=
  { x with list := (if listPlaces ≤ x.list.length then x.list.drop 1 else x.list) ++ [r], mark := r.seq }

/-- The newest record for a card (R90). -/
def newestRecord (card : Word32) (x : Ru) : Option RevRecord := x.list.reverse.find? fun r => decide (r.card = card)

/-- The nine bytes of a record in a REVOKE_PUSH (Table 12-2). -/
def RevRecord.bytes (r : RevRecord) : List Byte := be32 r.seq ++ be32 r.card.toNat ++ [if r.block then 1 else 2]

/-! ## Pulls -/

/-- The better of two neighbours for a pull: the higher mark, the one met first on equal marks (R97). -/
def higherMark : Option Neighbour → Neighbour → Option Neighbour
  | none, n => some n
  | some m, n => if m.mark < n.mark then some n else some m

/-- The best neighbour: the entry whose mark is highest among those above the own mark, the lower address on equal marks; the
table stands in rising address order (R97). -/
def bestNeighbour (s : State) : Option Nat :=
  ((s.nu.table.filter fun n => decide (s.ru.mark < n.mark)).foldl higherMark none).map fun n => n.address

/-- The address a target resolves to (R97). -/
def PullTarget.resolve (s : State) : PullTarget → Option Nat
  | .station a => some a
  | .best => bestNeighbour s

/-- A pull is sent to an address (R97). -/
def sendPull (a : Nat) (s : State) : State :=
  let t := offer (originFrame .revokePull (BitVec.ofNat 8 a) (be32 (s.ru.mark + 1))) s
  t.setRu { t.ru with wanted := none, outstanding := some ⟨a, .start⟩, holdoff := .start }

/-- The send test (R97): a pull wanted, none outstanding, and 10 s since the last one. -/
def testPull (s : State) : State :=
  match s.ru.wanted with
  | none => s
  | some (target, _) =>
    if s.ru.outstanding = none ∧ pullHoldoffLimit ≤ s.ru.holdoff.us then
      match target.resolve s with
      | some a => sendPull a s
      | none => s
    else s

/-- A pull becomes wanted (R96). -/
def wantPull (target : PullTarget) (w : Nat) (s : State) : State :=
  testPull (s.setRu { s.ru with wanted := some (target, w) })

/-- The outstanding pull ends (R98). -/
def endPull (s : State) : State := testPull (s.setRu { s.ru with outstanding := none })

/-- A pull is outstanding to the source of a frame. -/
def pullIsTo (s : State) (f : RxFrame) : Bool := s.ru.outstanding.any fun o => decide (o.target = f.src.toNat)

/-! ## The application of a record -/

/-- The target of a pull wanted for a record from a source (R96). -/
def pullTargetOf (f : RxFrame) : PullTarget := if sourceClass f.src = .gateway then .best else .station f.src.toNat

/-- A BLOCK for a card acts on its grant (R82). -/
def blockCard (card : Word32) (s : State) : State :=
  match cols.find? fun c => (s.au.get c).grant.any fun g => decide (g.card = card) with
  | none => s
  | some c =>
    match (s.au.get c).grant with
    | none => s
    | some g =>
      if g.active then curtail c .curtailedRevoked s
      else s.setAu c { s.au.get c with grant := some { g with revoked := true } }

/-- The entry slot write of a record's group, when the card is in the directory (R55, R91). -/
def entryItems (r : RevRecord) (s : State) : List StoreItem :=
  match lookupCard r.card s with
  | some (slot, w) => [⟨.dir slot, ({ w.entry with blocked := r.block } : DirEntry).image⟩]
  | none => []

/-- The record slot write of a group (R91). -/
def recordItem (r : RevRecord) : StoreItem := ⟨.rev (r.seq % 64), r.image⟩

/-- CD sets the status of the entry of a record's card (R55). -/
def applyStatus (r : RevRecord) (s : State) : State :=
  match lookupCard r.card s with
  | some (slot, w) => setWay slot { w with entry := { w.entry with blocked := r.block } } s
  | none => s

/-- DIR_GAP falls and the gap mark becomes absent (R93, R95, R100). -/
def clearGap (s : State) : State := lower .dirGap 0 (s.setRu { s.ru with gapMark := none })

/-- DIR_GAP is cleared if the mark has reached the gap mark (R93). -/
def clearReachedGap (s : State) : State :=
  match s.ru.gapMark with
  | some g => if g ≤ s.ru.mark then clearGap s else s
  | none => s

/-- A wanted pull whose wanted mark the mark has reached ends (R96). -/
def endReachedWant (s : State) : State :=
  match s.ru.wanted with
  | some (_, w) => if w ≤ s.ru.mark then s.setRu { s.ru with wanted := none } else s
  | none => s

/-- What follows the append of a record (R93, R95): AU is told of a BLOCK, and the record is counted. -/
def announceRecord (r : RevRecord) (s : State) : State :=
  count .revocationsApplied 1 (if r.block then blockCard r.card s else s)

/-- A next record (R93): applied when SC places its group, else refused and a pull wanted. -/
def applyNext (f : RxFrame) (r : RevRecord) (s : State) : State :=
  let group := recordItem r :: entryItems r s
  if queueHasRoom group.length s then
    let t := applyStatus r (placeItems group s)
    endReachedWant (clearReachedGap (announceRecord r (t.setRu (t.ru.append r))))
  else wantPull (pullTargetOf f) r.seq s

/-- A jump record (R95): it ends a wanted pull whatever its wanted mark, as R95 says (log entry 53). -/
def applyJump (f : RxFrame) (r : RevRecord) (s : State) : State :=
  let group := ⟨.rev 64, baseImage (r.seq - 1)⟩ :: recordItem r :: entryItems r s
  if queueHasRoom group.length s then
    let t := applyStatus r (placeItems group s)
    let u := announceRecord r (t.setRu { t.ru with list := [r], base := r.seq - 1, mark := r.seq })
    let v := clearGap u
    v.setRu { v.ru with wanted := none }
  else wantPull (pullTargetOf f) r.seq s

/-- A record of a push (R93, R95). -/
def takeRecord (f : RxFrame) (jump : Bool) (r : RevRecord) (s : State) : State :=
  if r.seq ≤ s.ru.mark then s
  else if jump then applyJump f r s
  else if r.seq = s.ru.mark + 1 then applyNext f r s
  else wantPull (pullTargetOf f) r.seq s

/-- The record that nine bytes of a push spell, none when it is malformed (R92). -/
def parsePushed (l : List Byte) : Option RevRecord :=
  if fieldAt l 0 4 ≠ 0 ∧ (byteAt l 8 = 1 ∨ byteAt l 8 = 2) then
    some ⟨fieldAt l 0 4, BitVec.ofNat 32 (fieldAt l 4 4), byteAt l 8 = 1⟩
  else none

/-- The records of a push taken in their order, up to a malformed one (R92); only the first may be a jump. -/
def takeRecords (f : RxFrame) (jump : Bool) : List (Option RevRecord) → State → State
  | [], s => s
  | none :: _, s => s
  | some r :: rest, s => takeRecords f false rest (takeRecord f jump r s)

end Sys2Proof.Machine
end

