-- ==== Sys2Proof/Machine/Time.lean ====
section
/-! DEFINITION. TU: the district clock, its hops and the allowance period (R134 to R138), and the meanings of the time commands. -/

namespace Sys2Proof.Machine

/-- Hops of an unset clock (R134). -/
def unsetHops : Nat := 15

/-- The period index that the clock gives (R138). -/
def periodOf (s : State) : Nat := s.tu.clock.toNat / (s.cfg.periodDays * 86400)

/-- The period index evaluated (R138): while the clock is set, a greater index rolls the period over and zeroes every usage
counter. -/
def evaluatePeriod (s : State) : State :=
  if s.tu.hops ≠ unsetHops ∧ s.tu.period < periodOf s then zeroUsage (s.setTu { s.tu with period := periodOf s }) else s

/-- The clock and hops set, the hop-aging timer restarted and the period evaluated (R135, R136). -/
def setClock (clock : Word32) (hops : Nat) (s : State) : State :=
  evaluatePeriod (s.setTu { s.tu with clock := clock, hops := hops, aging := .start })

/-- Two clock values differ by more than 2 s either way (R136). -/
def clocksApart (a b : Word32) : Bool := decide (a.toNat + 2 < b.toNat) || decide (b.toNat + 2 < a.toNat)

/-- Adoption from a beacon (R136). -/
def adoptTime (clock : Word32) (hops : Nat) (s : State) : State :=
  if hops + 1 < s.tu.hops then
    if s.tu.hops = unsetHops ∨ clocksApart clock s.tu.clock then setClock clock (hops + 1) s
    else setClock s.tu.clock (hops + 1) s
  else s

/-- TU takes a TIME (R135, R192). -/
def takeTime (f : RxFrame) (s : State) : State :=
  if f.payload.length = 4 then setClock (BitVec.ofNat 32 (fieldAt f.payload 0 4)) 0 s else s

/-- TIME (R135). -/
def execTime (after : Nat) (f : RxFrame) (s : State) : Host.Outcome State Fault Refusal :=
  .next (withFrame .time f takeTime (s.advance after))

/-- The clock one second on (R134). -/
def tickClock (s : State) : State := s.setTu { s.tu with clock := s.tu.clock + 1 }

/-- CLOCK_SECOND (R134, R138): in every phase; the period is computed in RUN. -/
def execClockSecond (after : Nat) (s : State) : Host.Outcome State Fault Refusal :=
  let t := s.advance after
  .next (if t.cl.powered then
    if t.inRun then evaluatePeriod (tickClock t) else tickClock t
  else t)

/-- HOP_AGING_EXPIRY (R137): taken in RUN while the clock is set; hops stop at 14. -/
def execHopAgingExpiry (after : Nat) (s : State) : Host.Outcome State Fault Refusal :=
  let t := s.advance after
  .next (if t.inRun && decide (t.tu.hops ≠ unsetHops) && t.tu.aging.running then
    t.setTu { t.tu with hops := min 14 (t.tu.hops + 1), aging := .start } else t)

end Sys2Proof.Machine
end

