-- ==== Sys2Proof/Machine/Beacons.lean ====
section
/-! DEFINITION. The meanings of the beacon commands and the neighbour table (R126 to R133). -/

namespace Sys2Proof.Machine

/-- A BEACON fits its layout: a container count of 1 to 4 and the payload length that goes with it (R129). -/
def beaconFits (l : List Byte) : Bool :=
  decide (1 ≤ (byteAt l 12).toNat) && decide ((byteAt l 12).toNat ≤ 4)
    && decide (l.length = 13 + 5 * (byteAt l 12).toNat)

/-- The summary at position `i` of a BEACON (12.1). -/
def beaconSummary (l : List Byte) (i : Nat) : Summary where
  fraction := (byteAt l (13 + 5 * i)).extractLsb' 0 3
  group := (byteAt l (13 + 5 * i)).extractLsb' 3 3
  cls := (byteAt l (13 + 5 * i)).extractLsb' 6 2
  fillPercent := byteAt l (14 + 5 * i)
  unknown := (byteAt l (15 + 5 * i)).getLsbD 0

/-- The rank that the preference list gives an address: that of the lowest position that names it (R129, R185). -/
def rankOf (s : State) (a : Nat) : Option Nat := (s.cfg.prefs.find? fun p => decide (p.address = a)).map Preference.rank

/-- The entry that a beacon creates (R129). -/
def createdEntry (s : State) (f : RxFrame) : Neighbour where
  address := f.src.toNat
  lastSeq := byteAt f.payload 1
  age := 0
  margin := f.margin
  streak := if f.margin = 7 then 1 else 0
  marginal := false
  summaries := (List.range (byteAt f.payload 12).toNat).map (beaconSummary f.payload)
  mark := fieldAt f.payload 7 4
  hops := (byteAt f.payload 6).toNat
  alarms := (byteAt f.payload 11).getLsbD 0
  rank := rankOf s f.src.toNat

/-- The marginal streak after a beacon of a margin class (R131). -/
def nextStreak (n : Neighbour) (margin : Fin 8) : Nat := if margin = 7 then min 3 (n.streak + 1) else 0

/-- The entry after a beacon from its address (R130, R131): as created, but its rank stays and its streak and flag follow R131. -/
def updatedEntry (s : State) (f : RxFrame) (n : Neighbour) : Neighbour :=
  { createdEntry s f with
    rank := n.rank
    streak := nextStreak n f.margin
    marginal := decide (f.margin = 7) && (n.marginal || decide (3 ≤ nextStreak n f.margin)) }

/-- The beacons missed between two sequences (R130): none when the sender is taken to have restarted. -/
def missedBeacons (last seq : Byte) : Nat :=
  let d := (seq - last - 1).toNat
  if d < 128 then d else 0

/-- An entry put into the table at its place in address order, in place of one of the same address. -/
def putNeighbour (n : Neighbour) : List Neighbour → List Neighbour
  | [] => [n]
  | m :: l =>
    if n.address < m.address then n :: m :: l else if n.address = m.address then n :: l else m :: putNeighbour n l

/-- The one of two entries that is evicted first: the higher age, the one met first on equal ages (R129). -/
def olderEntry : Option Neighbour → Neighbour → Option Neighbour
  | none, n => some n
  | some m, n => if m.age < n.age then some n else some m

/-- The entry to evict among the entries without a rank; the table stands in rising address order (R129). -/
def entryToEvict (l : List Neighbour) : Option Neighbour := (l.filter fun n => n.rank.isNone).foldl olderEntry none

/-- The places of the neighbour table (R129). -/
def tablePlaces : Nat := 16

/-- The table with a place for a new entry (R129); with no entry to evict, which the preference list rules out, none is made. -/
def makePlace (l : List Neighbour) : Option (List Neighbour) :=
  if l.length < tablePlaces then some l
  else (entryToEvict l).map fun old => l.filter fun n => decide (n.address ≠ old.address)

/-- A valid beacon taken into the table (R129, R130). -/
def takeIntoTable (f : RxFrame) (s : State) : State :=
  match s.nu.table.find? fun n => decide (n.address = f.src.toNat) with
  | some n =>
    count .beaconsMissed (missedBeacons n.lastSeq (byteAt f.payload 1))
      (s.setNu { s.nu with table := putNeighbour (updatedEntry s f n) s.nu.table })
  | none =>
    match makePlace s.nu.table with
    | some l => s.setNu { s.nu with table := putNeighbour (createdEntry s f) l }
    | none => s

/-- The mark of a beacon handed to RU (R96, R133). -/
def handMark (a mark : Nat) (s : State) : State := if s.ru.mark < mark then wantPull (.station a) mark s else s

/-- NU takes a BEACON (R129), then hands its time to TU and its mark to RU (R133). -/
def takeBeacon (f : RxFrame) (s : State) : State :=
  if beaconFits f.payload then
    handMark f.src.toNat (fieldAt f.payload 7 4)
      (adoptTime (BitVec.ofNat 32 (fieldAt f.payload 2 4)) (byteAt f.payload 6).toNat (takeIntoTable f s))
  else s

/-- BEACON (R129). -/
def execBeacon (after : Nat) (f : RxFrame) (s : State) : Host.Outcome State Fault Refusal :=
  .next (withFrame .beacon f takeBeacon (s.advance after))

/-- BEACON_PERIODIC_TIMER_EXPIRY (R126). -/
def execBeaconPeriodicTimerExpiry (after : Nat) (s : State) : Host.Outcome State Fault Refusal :=
  let t := s.advance after
  .next (if t.inRun then offerBeacon t else t)

/-- The effect of the holdoff timer's reaching 5 s (R127). -/
def holdoffExpires (s : State) : State :=
  let t := s.setNu { s.nu with holdoff := .stoppedAt beaconHoldoffLimit, early := false }
  if s.nu.early then offerBeacon t else t

/-- BEACON_HOLDOFF_EXPIRY (R127): taken in RUN while the timer runs. -/
def execBeaconHoldoffExpiry (after : Nat) (s : State) : Host.Outcome State Fault Refusal :=
  let t := s.advance after
  .next (if t.inRun && t.nu.holdoff.running then holdoffExpires t else t)

/-- The table one second older, without the entries whose age exceeds ten beacon intervals (R132). -/
def agedTable (s : State) : List Neighbour :=
  (s.nu.table.map fun n => { n with age := n.age + 1 }).filter fun n => decide (n.age ≤ 10 * s.cfg.beaconInterval)

/-- NEIGHBOUR_AGE_TICK (R132): in RUN. -/
def execNeighbourAgeTick (after : Nat) (s : State) : Host.Outcome State Fault Refusal :=
  let t := s.advance after
  .next (if t.inRun then t.setNu { t.nu with table := agedTable t } else t)

end Sys2Proof.Machine
end

