-- ==== Sys2Proof/Machine/Directory.lean ====
section
/-! DEFINITION. The meanings of DIR_PUT and DIR_DROP (R51 to R54). -/

namespace Sys2Proof.Machine

/-- The entry that a DIR_PUT payload carries, its status ACTIVE (Table 12-2, R48). -/
def carriedEntry (l : List Byte) : DirEntry where
  card := BitVec.ofNat 32 (fieldAt l 0 4)
  household := BitVec.ofNat 20 (fieldAt l 4 3)
  issue := byteAt l 7
  blocked := false
  mask := byteAt l 8
  capClass := Fin.ofNat 4 (byteAt l 9).toNat
  assist := (byteAt l 10).getLsbD 0

/-- An entry set in a way and its slot write placed (R52, R53). -/
def putEntry (slot : Nat) (w : DirWay) (s : State) : State := placeItems [⟨.dir slot, w.entry.image⟩] (setWay slot w s)

/-- The carried fields with a status kept. -/
def DirEntry.withStatus (e : DirEntry) (blocked : Bool) : DirEntry := { e with blocked := blocked }

/-- The status of a created entry (R53): that of the newest record for the card, else ACTIVE. -/
def statusAtCreation (card : Word32) (s : State) : Bool := (newestRecord card s.ru).any fun r => r.block

/-- A DIR_PUT of a present card (R52). -/
def replaceEntry (slot : Nat) (w : DirWay) (e : DirEntry) (s : State) : RequestResult × State :=
  if e.withStatus w.entry.blocked = w.entry then (.done, s)
  else if queueHasRoom 1 s then (.done, putEntry slot { w with entry := e.withStatus w.entry.blocked } s)
  else (.queueFull, s)

/-- A DIR_PUT of an absent card (R53). -/
def createEntry (e : DirEntry) (s : State) : RequestResult × State :=
  match emptyWay (bucketOf e.card) s with
  | none => (.bucketFull, occur .storeFull 0 s)
  | some slot =>
    if queueHasRoom 1 s then (.done, putEntry slot ⟨e.withStatus (statusAtCreation e.card s), 0⟩ s)
    else (.queueFull, s)

/-- CD decides a DIR_PUT (R52, R53). -/
def putCard (e : DirEntry) (s : State) : RequestResult × State :=
  match lookupCard e.card s with
  | some (slot, w) => replaceEntry slot w e s
  | none => createEntry e s

/-- CD decides a DIR_DROP (R54). -/
def dropCard (card : Word32) (s : State) : RequestResult × State :=
  match lookupCard card s with
  | none => (.notFound, s)
  | some (slot, _) =>
    if queueHasRoom 1 s then
      (.done, placeItems [⟨.dir slot, emptyDirImage⟩] (s.setCd { s.cd with image := Sparse.del slot s.cd.image }))
    else (.queueFull, s)

/-- The DIR_RESULT of a directed request (R51). -/
def dirResult (f : RxFrame) (r : RequestResult × State) : State :=
  if directed r.2 f then reply .dirResult f (f.payload.take 4 ++ [r.1.code]) r.2 else r.2

/-- QR takes a DIR_PUT (R51, R192). -/
def takeDirPut (f : RxFrame) (s : State) : State :=
  if f.payload.length = 11 then dirResult f (putCard (carriedEntry f.payload) s) else s

/-- QR takes a DIR_DROP (R51, R192). -/
def takeDirDrop (f : RxFrame) (s : State) : State :=
  if f.payload.length = 4 then dirResult f (dropCard (BitVec.ofNat 32 (fieldAt f.payload 0 4)) s) else s

/-- DIR_PUT (R52, R53). -/
def execDirPut (after : Nat) (f : RxFrame) (s : State) : Host.Outcome State Fault Refusal :=
  .next (withFrame .dirPut f takeDirPut (s.advance after))

/-- DIR_DROP (R54). -/
def execDirDrop (after : Nat) (f : RxFrame) (s : State) : Host.Outcome State Fault Refusal :=
  .next (withFrame .dirDrop f takeDirDrop (s.advance after))

end Sys2Proof.Machine
end

