-- ==== Sys2Proof/Machine/ResetOps.lean ====
section
/-! DEFINITION. Resets (R183) and the values each block takes after them: R22, R46, R64, R66, R88, R103, R124, R139, R140, R156,
R182, R191. -/

namespace Sys2Proof.Machine

/-- CC's record after a warm reset (R22): timers, pending end and waiting round cleared; round id, last emptied round id, fill
before, and D_e kept, and the state until the derivation judges it (R188); each debounce begins again. DESIGN CHOICE: the stored
class keeps its value until the derivation takes FE's (log entry 62). -/
def Cc.afterWarm (x : Cc) : Cc :=
  { Cc.cold with
    state := x.state
    drum := x.drum
    sense := x.sense
    present := x.present
    roundId := x.roundId
    lastEmptied := x.lastEmptied
    fillBefore := x.fillBefore
    depositsE := x.depositsE
    cls := x.cls }

/-- EU's fields of one container after a warm reset (R46). -/
def EuCol.afterWarm (x : EuCol) : EuCol := { EuCol.cold with fresh := x.fresh }

/-- SC after a warm reset (R64, R66): queue and staging discarded, the write in flight left to complete, and the discarded
records held to be raised at entry to RUN. -/
def Sc.afterWarm (full : Bool) (x : Sc) : Sc :=
  { x with queue := [], staging := [], logLostDue := x.logLostDue || !x.staging.isEmpty,
           counterFullDue := x.counterFullDue || full }

/-- SC after a cold reset (R66): the store keeps what it holds, and a write in flight completes. -/
def Sc.afterCold (x : Sc) : Sc := { Sc.cold with store := x.store, inFlight := x.inFlight }

/-- CL at the beginning of a start (R183, R184). DESIGN CHOICE: the image of before stays in force until the new one is read
(R191; log entry 65). -/
def Cl.restarted (x : Cl) : Cl := { x with phase := .starting, stage := .image }

/-- The blocks after a cold reset. What stays: the store, a write in flight, power and RESET_N, and the model's own fields. -/
def coldBlocks (s : State) : State :=
  { State.reset with
    cl := { Cl.cold with powered := s.cl.powered, resetLow := s.cl.resetLow }
    sc := s.sc.afterCold
    au := Quad.all .afterReset
    freeIndex := s.freeIndex
    pending := s.pending }

/-- The blocks after a warm reset. Until the start sets them anew, the arbiter pointer keeps its place (log entry 49), RU its list,
base and mark and CD the directory image (log entry 50), CL the configuration image and FE inc, H, T_near, E and the class (log entry
65), and DL's indices and NU's periodic timer stand at 0 (log entries 51 and 52). -/
def warmBlocks (s : State) : State :=
  let discarded := s.sc.staging.length
  let t := addCount .logLost discarded s
  { t with
    cl := s.cl.restarted
    cc := Quad.ofFn fun c => (s.cc.get c).afterWarm
    eu := { s.eu with cols := Quad.ofFn fun c => (s.eu.cols.get c).afterWarm, inFlight := none }
    fe := Quad.ofFn fun c => { s.fe.get c with nAtStart := 0 }
    cd := { s.cd with held := [] }
    sc := s.sc.afterWarm (reachesTop .logLost discarded s)
    au := Quad.all .afterReset
    ru := { s.ru with wanted := none, outstanding := none, holdoff := .stoppedAt pullHoldoffLimit, gapMark := none }
    lc := .afterReset
    nu := { Nu.cold with seq := s.nu.seq }
    tu := { s.tu with aging := .zero }
    rr := none
    dl := ⟨0, 0⟩
    acu := { t.acu with levels := 0, report := .zero }
    restartPromised := false }

/-- A start by RESET_N or by a departed RESTART reply (R183): warm, but cold while RUN has not been entered since power-on. -/
def resetBlocks (s : State) : State :=
  match s.cl.startKind with
  | .cold => coldBlocks s
  | .warm => warmBlocks s

/-- The work of STARTING begins (R183): the clamped and safe flags clear, and each reader channel is sent OUT_OF_SERVICE. -/
def beginWork (s : State) : State :=
  let t := s.setCl { s.cl with phase := .starting, stage := .image, clamped := false, safe := false }
  { t with au := Quad.ofFn fun c => ({ t.au.get c with last := .plain .outOfService } : Au).send (.plain .outOfService) }

/-- The reply to RESTART has left the queue (R181): the station enters a warm reset. -/
def promisedRestart (s : State) : State := beginWork (resetBlocks s)

/-- A frame that has left the queue asked for departure, so that a restart follows (R114, R181). -/
def afterDeparture (f : TxFrame) (s : State) : State := if f.departure then promisedRestart s else s

end Sys2Proof.Machine
end

