-- ==== Sys2Proof/Machine/Image.lean ====
section
/-! DEFINITION. The configuration image: its layout (12.4), its check (R184), its ranges and defaults (R185), and what FE derives
from it (R31). -/

namespace Sys2Proof.Machine

/-- A value outside a range replaced by the nearer end (00 section 4.3). -/
def clampTo (lo hi n : Nat) : Nat := max lo (min hi n)

/-- A stored 0 gives the default (R185). -/
def orDefault (d n : Nat) : Nat := if n = 0 then d else n

/-- The image answers every byte and its CRC-16 is right (R184). -/
def imageGood (b : List Byte) : Bool :=
  decide (192 ≤ b.length) && decide ((crc16 (b.take 190)).toNat = fieldAt b 190 2)

/-- The flag bits of the 14 condition names, bit `k` of each byte from offset 38 (12.4). -/
def conditionFlags (b : List Byte) (k : Nat) : BitVec 14 :=
  BitVec.ofNat 14 ((List.range 14).foldl (fun a i => a + flagAt i ((byteAt b (38 + i)).getLsbD k)) 0)

/-- The fields of one container as stored (12.4). -/
def storedContainer (b : List Byte) (c : Col) : ContainerConfig :=
  let o := 52 + 15 * c.val
  { fraction := fieldAt b o 1, dFloor := fieldAt b (o + 1) 2, h := fieldAt b (o + 3) 2, v := fieldAt b (o + 5) 2,
    vd := fieldAt b (o + 7) 1, tNear := fieldAt b (o + 8) 2, tFull := fieldAt b (o + 10) 2, cycles := fieldAt b (o + 12) 1,
    carrier := fieldAt b (o + 13) 1, burst := fieldAt b (o + 14) 1 }

/-- The container count in force (R185). -/
def countInForce (b : List Byte) : Nat := clampTo 1 4 (fieldAt b 1 1)

/-- The fields of the image before the clamps, the defaults given (R185, 12.4). The containers at or above the count are not
used and stay blank; a snapshot mode above 1 is AUTO. -/
def storedImage (b : List Byte) : ConfigImage where
  ownAddress := fieldAt b 0 1
  count := fieldAt b 1 1
  districtPrefix := fieldAt b 2 2
  measInterval := orDefault 600 (fieldAt b 4 2)
  grantWindow := orDefault 20 (fieldAt b 6 1)
  holdTime := orDefault 240 (fieldAt b 7 2)
  liftLimit := orDefault 900 (fieldAt b 9 2)
  beaconInterval := orDefault 60 (fieldAt b 11 2)
  periodDays := fieldAt b 13 1
  auto := decide (1 ≤ fieldAt b 14 1)
  reportPeriod := fieldAt b 15 1
  openRedirect := (byteAt b 16).getLsbD 0
  metered := byteAt b 17
  caps := Quad.ofFn fun k => fieldAt b (18 + k.val) 1
  prefs := (List.range 8).map fun i => ⟨fieldAt b (22 + 2 * i) 1, fieldAt b (23 + 2 * i) 1⟩
  masked := conditionFlags b 0
  both := conditionFlags b 1
  containers := Quad.ofFn fun c => if c.val < countInForce b then storedContainer b c else .blank

/-- The ranges of one container's fields (R185). -/
def ContainerConfig.clamped (x : ContainerConfig) : ContainerConfig where
  fraction := clampTo 0 7 x.fraction
  dFloor := clampTo 300 4000 x.dFloor
  h := clampTo 200 3750 x.h
  v := clampTo 500 8000 x.v
  vd := clampTo 10 250 x.vd
  tNear := clampTo 100 1000 x.tNear
  tFull := clampTo 100 1000 x.tFull
  cycles := clampTo 1 4 x.cycles
  carrier := clampTo 0 3 x.carrier
  burst := clampTo 8 32 x.burst

/-- A preference position clamped: only the rank of a used position is compared (R185), used being every position whose address is
not 0, also one that names no entry (log entry 58). -/
def Preference.clamped (p : Preference) : Preference :=
  if p.address = 0 then p else { p with rank := clampTo 0 7 p.rank }

/-- The ranges of the image's fields (R185). -/
def ConfigImage.clamped (x : ConfigImage) : ConfigImage :=
  { x with
    ownAddress := clampTo 0 55 x.ownAddress
    count := clampTo 1 4 x.count
    districtPrefix := clampTo 0 4095 x.districtPrefix
    measInterval := clampTo 60 3600 x.measInterval
    grantWindow := clampTo 5 60 x.grantWindow
    holdTime := clampTo 60 900 x.holdTime
    liftLimit := clampTo 300 3600 x.liftLimit
    beaconInterval := clampTo 30 600 x.beaconInterval
    periodDays := clampTo 1 31 x.periodDays
    reportPeriod := clampTo 1 24 x.reportPeriod
    prefs := x.prefs.map Preference.clamped
    containers := Quad.ofFn fun c =>
      if c.val < clampTo 1 4 x.count then (x.containers.get c).clamped else x.containers.get c }

/-- The image in force from the bytes of a good image (R185). -/
def imageInForce (b : List Byte) : ConfigImage := (storedImage b).clamped

/-- A clamp of CL has been applied (R185); the snapshot mode is compared as a code. -/
def clampApplied (b : List Byte) : Bool :=
  decide (imageInForce b ≠ storedImage b) || decide (1 < fieldAt b 14 1)

/-- H as FE derives it (R31). -/
def ContainerConfig.derivedH (x : ContainerConfig) : Nat := min x.h (x.dFloor - 250)

/-- T_near as FE derives it (R31). -/
def ContainerConfig.derivedNear (x : ContainerConfig) : Nat := min x.tNear (x.tFull - 50)

/-- The increment before its clamp: v_d times 1000 over V, rounded up (R31). -/
def ContainerConfig.rawInc (x : ContainerConfig) : Nat := (x.vd * 1000 + x.v - 1) / x.v

/-- The increment (R31). -/
def ContainerConfig.derivedInc (x : ContainerConfig) : Nat := clampTo 1 500 x.rawInc

/-- A clamp of FE applies to the container (R31). -/
def ContainerConfig.feClamps (x : ContainerConfig) : Bool :=
  decide (x.derivedH ≠ x.h) || decide (x.derivedNear ≠ x.tNear) || decide (x.derivedInc ≠ x.rawInc)

/-- FE's fields under a new image (R31, R46): the derived quantities, then E and the class recomputed. -/
def Fe.underImage (x : Fe) (cfg : ContainerConfig) : Fe :=
  ({ x with inc := cfg.derivedInc, h := cfg.derivedH, tNear := cfg.derivedNear } : Fe).recompute cfg.tFull

end Sys2Proof.Machine
end

