-- ==== Sys2Proof/Machine/QueryOps.lean ====
section
/-! DEFINITION. QR's queries: the content of each subject (Table 12-3, R174 to R179) and the log read of DL (R161, R162). -/

namespace Sys2Proof.Machine

/-- The query subjects (Table 12-1). -/
inductive Subject | alarms | counters | containers | neighbours | status | dirGet | log
deriving DecidableEq, Repr

/-- The code of a subject (Table 12-1). -/
def Subject.code : Subject → Byte
  | .alarms => 1
  | .counters => 2
  | .containers => 3
  | .neighbours => 4
  | .status => 5
  | .dirGet => 6
  | .log => 7

/-- The known subject of a code, none for BAD_SUBJECT. -/
def subjectOf (b : Byte) : Option Subject :=
  [Subject.alarms, .counters, .containers, .neighbours, .status, .dirGet, .log].find? fun k => decide (k.code = b)

/-- The length of the arguments of a subject (Table 12-2). -/
def Subject.argBytes : Subject → Nat
  | .alarms | .counters | .containers | .status => 0
  | .neighbours => 1
  | .dirGet => 4
  | .log => 5

/-! ## ALARMS, COUNTERS, CONTAINERS -/

/-- The content of an ALARMS reply (R174). -/
def alarmsContent (s : State) : List Byte := [BitVec.ofNat 8 s.cfg.count] ++ positionBytes s ++ latchBytes s

/-- ACU empties the pending set and makes the latch stamp absent (R174). -/
def emptyPending (s : State) : State := s.setAcu { s.acu with pending := 0, latch := none }

/-- The report stamp, clock and hops (R171). -/
def stampBytes (s : State) : List Byte := be32 s.acu.stampClock.toNat ++ [BitVec.ofNat 8 s.acu.stampHops]

/-- The content of a COUNTERS reply (R175). -/
def countersContent (s : State) : List Byte := s.acu.copies.bytes ++ stampBytes s

/-- The live levels of a container's five level conditions (R176). -/
def levelBits (s : State) (c : Col) : Nat := (s.acu.levels >>> (8 + 6 * c.val)).toNat % 32

/-- The 16 bytes of one container in a CONTAINERS reply (R176). -/
def containerBytes (s : State) (c : Col) : List Byte :=
  let x := s.cc.get c
  let f := s.fe.get c
  [BitVec.ofNat 8 x.state.code,
   BitVec.ofNat 8 (flagAt 0 f.unknown + flagAt 1 f.emptied + flagAt 2 x.roundId.isNone + flagAt 3 x.lastEmptied.isNone)]
    ++ roundBits x.roundId ++ roundBits x.lastEmptied ++ be16 x.depositsE ++ [BitVec.ofNat 8 f.cls.code]
    ++ be16 f.e ++ be16 f.pm ++ [BitVec.ofNat 8 f.nd, BitVec.ofNat 8 f.echoFail, BitVec.ofNat 8 (levelBits s c)]

/-- The content of a CONTAINERS reply (R176). -/
def containersContent (s : State) : List Byte := [BitVec.ofNat 8 s.cfg.count] ++ s.usedCols.flatMap (containerBytes s)

/-! ## NEIGHBOURS and STATUS -/

/-- The two bytes of a summary in a NEIGHBOURS reply. -/
def neighbourSummaryBytes (x : Summary) : List Byte := [BitVec.ofNat 8 (x.group.toNat + 8 * x.cls.toNat), x.fillPercent]

/-- The bytes of an entry in a NEIGHBOURS reply (R177). -/
def neighbourBytes (n : Neighbour) : List Byte :=
  [BitVec.ofNat 8 n.address, n.lastSeq] ++ be16 n.age
    ++ [BitVec.ofNat 8 (n.margin.val + flagAt 3 n.marginal + flagAt 4 n.alarms),
        match n.rank with
        | some r => BitVec.ofNat 8 r
        | none => 0xFF]
    ++ be32 n.mark ++ [BitVec.ofNat 8 n.hops, BitVec.ofNat 8 n.summaries.length]
    ++ n.summaries.flatMap neighbourSummaryBytes

/-- The content of a NEIGHBOURS reply from a position (R177): up to 4 entries in ascending address order. -/
def neighboursContent (s : State) (position : Nat) : List Byte :=
  let entries := (s.nu.table.drop position).take 4
  [BitVec.ofNat 8 s.nu.table.length, BitVec.ofNat 8 entries.length] ++ entries.flatMap neighbourBytes

/-- The flags of a STATUS reply. -/
def statusFlags (s : State) : Nat :=
  flagAt 0 (s.level .dirGap 0) + flagAt 1 s.ru.gapMark.isSome + flagAt 2 s.cfg.auto + flagAt 3 s.cl.clamped

/-- The content of a STATUS reply (R178). -/
def statusContent (s : State) : List Byte :=
  [BitVec.ofNat 8 s.cfg.ownAddress, BitVec.ofNat 8 s.cfg.count] ++ be32 s.tu.clock.toNat ++ [BitVec.ofNat 8 s.tu.hops]
    ++ be32 s.tu.period ++ be32 s.ru.mark ++ be32 s.ru.oldest
    ++ [BitVec.ofNat 8 s.ru.list.length, BitVec.ofNat 8 (statusFlags s)] ++ be32 (s.ru.gapMark.getD 0)
    ++ be16 s.cd.image.length ++ [BitVec.ofNat 8 s.sc.queue.length, BitVec.ofNat 8 s.sc.staging.length]
    ++ be32 s.dl.oldest ++ be32 s.dl.next
    ++ [BitVec.ofNat 8 s.lc.queue.length, BitVec.ofNat 8 s.lc.margin.val, s.nu.seq, BitVec.ofNat 8 s.nu.table.length]
    ++ be32 (s.acu.report.us / second)

/-! ## DIR_GET -/

/-- The content of a DIR_GET reply for a card that is found (R179). -/
def entryContent (slot : Nat) (w : DirWay) : List Byte :=
  be32 w.entry.card.toNat ++ be16 slot ++ be24 w.entry.household.toNat
    ++ [w.entry.issue, flagByte w.entry.blocked, w.entry.mask, BitVec.ofNat 8 w.entry.capClass.val,
        flagByte w.entry.assist, BitVec.ofNat 8 w.usage]

/-- The result and content of a DIR_GET reply (R179). -/
def dirGetAnswer (card : Word32) (s : State) : RequestResult × List Byte :=
  match lookupCard card s with
  | some (slot, w) => (.done, entryContent slot w)
  | none => (.notFound, be32 card.toNat)

/-! ## LOG -/

/-- The answer to a read of a slot of the store: the last-placed pending image, else the image being written, else the store
(R62). -/
def slotAnswer (sl : Slot) (s : State) : List Byte :=
  let staged := (s.sc.staging.filter fun r => decide (logSlot r.index = sl)).map LogRecord.image
  let queued := (s.sc.queue.filter fun i => decide (i.slot = sl)).map StoreItem.bytes
  match (staged ++ queued).getLast? with
  | some image => image
  | none =>
    match s.sc.inFlight with
    | some i => if i.slot = sl then i.bytes else readSlot s.sc.store sl
    | none => readSlot s.sc.store sl

/-- The record of kind NONE (R162, R193). -/
def noneRecord (index : Nat) : List Byte := be32 index ++ fill 4 ++ [0xF0] ++ fill 11

/-- The 20 bytes of a held record as DL returns it (R162). DESIGN CHOICE: they are served as they are stored, absent fields included
(R193; log entry 67). -/
def servedRecord (s : State) (index : Nat) : List Byte :=
  let image := slotAnswer (logSlot index) s
  if parseLogIndex image = some index then (image.drop 1).take 20 else noneRecord index

/-- The number of records asked for: 0 is taken as 1, more than 4 as 4 (R161). -/
def askedRecords (maximum : Nat) : Nat := clampTo 1 4 maximum

/-- The indices that a log read returns (R161). -/
def servedIndices (d : Dl) (from' maximum : Nat) : List Nat :=
  let first := if from' < d.oldest then d.oldest else from'
  (List.range (min (askedRecords maximum) (d.next - first))).map (first + ·)

/-- The remaining count of a log read (R161). -/
def remainingAfter (d : Dl) (served : List Nat) : Nat :=
  match served.getLast? with
  | some last => d.next - (last + 1)
  | none => 0

/-- The content of a LOG reply (R161, R179). -/
def logContent (s : State) (from' maximum : Nat) : List Byte :=
  let served := servedIndices s.dl from' maximum
  be32 s.dl.oldest ++ be32 s.dl.next ++ be32 (remainingAfter s.dl served)
    ++ [flagByte (decide (from' < s.dl.oldest)), BitVec.ofNat 8 served.length] ++ served.flatMap (servedRecord s)

/-! ## The reply -/

/-- A QUERY_REPLY: subject, result and content (R173). -/
def queryReply (f : RxFrame) (subject : Byte) (result : RequestResult) (content : List Byte) (s : State) : State :=
  reply .queryReply f ([subject, result.code] ++ content) s

/-- QR answers a query of a known subject whose arguments fit (R174 to R179). -/
def answerSubject (f : RxFrame) (k : Subject) (args : List Byte) (s : State) : State :=
  match k with
  | .alarms => queryReply f k.code .done (alarmsContent s) (emptyPending s)
  | .counters => queryReply f k.code .done (countersContent s) s
  | .containers => queryReply f k.code .done (containersContent s) s
  | .neighbours => queryReply f k.code .done (neighboursContent s (byteAt args 0).toNat) s
  | .status => queryReply f k.code .done (statusContent s) s
  | .dirGet =>
    let a := dirGetAnswer (BitVec.ofNat 32 (fieldAt args 0 4)) s
    queryReply f k.code a.1 a.2 s
  | .log => queryReply f k.code .done (logContent s (fieldAt args 0 4) (byteAt args 4).toNat) s

/-- QR takes a query of a known subject (R173). -/
def takeSubject (k : Subject) (f : RxFrame) (args : List Byte) (s : State) : State :=
  if args.length = k.argBytes then answerSubject f k args s else queryReply f k.code .badRequest [] s

/-- QR takes a QUERY (R173): one without a subject byte is answered BAD_REQUEST with subject 0 (log entry 20). -/
def takeQuery (f : RxFrame) (s : State) : State :=
  match f.payload with
  | [] => queryReply f 0 .badRequest [] s
  | b :: args =>
    match subjectOf b with
    | some k => takeSubject k f args s
    | none => queryReply f b .badSubject [] s

/-! ## SNAPSHOT and RESTART -/

/-- A snapshot at a gateway's request (R171, R172): in AUTO the report timer restarts. -/
def requestedSnapshot (s : State) : State :=
  let t := performSnapshot s
  if s.cfg.auto then t.setAcu { t.acu with report := .start } else t

/-- QR takes a SNAPSHOT (R180, R192). -/
def takeSnapshot (f : RxFrame) (s : State) : State :=
  if f.payload.length = 0 then
    let t := requestedSnapshot s
    reply .reply f ([Kind.snapshot.code, RequestResult.done.code] ++ stampBytes t) t
  else s

/-- The payload of the REPLY to a RESTART (R181). -/
def restartPayload : List Byte := [Kind.restart.code, RequestResult.done.code]

/-- QR takes a RESTART when none is promised (R181): the REPLY with its departure notice; a drop is a departure at once. -/
def promiseRestart (f : RxFrame) (s : State) : State :=
  let frame := replyFrame .reply f restartPayload true
  let t := { s with restartPromised := true }
  match placementOf frame t with
  | .dropped => afterDeparture frame (offer frame t)
  | .placed | .displaced _ | .refused => offer frame t

/-- QR takes a RESTART (R181, R192). -/
def takeRestart (f : RxFrame) (s : State) : State :=
  if f.payload.length = 0 then
    if s.restartPromised then reply .reply f restartPayload s else promiseRestart f s
  else s

end Sys2Proof.Machine
end

