-- ==== Sys2Proof/Machine/Gateway.lean ====
section
/-! DEFINITION. The meanings of the gateway commands (chapter 10). -/

namespace Sys2Proof.Machine

/-- A QUERY of one subject: the frame is a QUERY whose payload is the subject byte and the carried arguments (R173). -/
def withQuery (k : Subject) (f : RxFrame) (s : State) : State :=
  withFrame .query { f with payload := k.code :: f.payload } takeQuery s

/-- QUERY_ALARMS (R174). -/
def execQueryAlarms (after : Nat) (f : RxFrame) (s : State) : Host.Outcome State Fault Refusal :=
  .next (withQuery .alarms f (s.advance after))

/-- QUERY_COUNTERS (R175). -/
def execQueryCounters (after : Nat) (f : RxFrame) (s : State) : Host.Outcome State Fault Refusal :=
  .next (withQuery .counters f (s.advance after))

/-- QUERY_CONTAINERS (R176). -/
def execQueryContainers (after : Nat) (f : RxFrame) (s : State) : Host.Outcome State Fault Refusal :=
  .next (withQuery .containers f (s.advance after))

/-- QUERY_NEIGHBOURS (R177). -/
def execQueryNeighbours (after : Nat) (f : RxFrame) (s : State) : Host.Outcome State Fault Refusal :=
  .next (withQuery .neighbours f (s.advance after))

/-- QUERY_STATUS (R178). -/
def execQueryStatus (after : Nat) (f : RxFrame) (s : State) : Host.Outcome State Fault Refusal :=
  .next (withQuery .status f (s.advance after))

/-- QUERY_DIR_GET (R179). -/
def execQueryDirGet (after : Nat) (f : RxFrame) (s : State) : Host.Outcome State Fault Refusal :=
  .next (withQuery .dirGet f (s.advance after))

/-- QUERY_LOG (R161). -/
def execQueryLog (after : Nat) (f : RxFrame) (s : State) : Host.Outcome State Fault Refusal :=
  .next (withQuery .log f (s.advance after))

/-- QUERY_BAD_SUBJECT (R173): the carried payload is the whole QUERY; one of a known subject is taken as that subject's. -/
def execQueryBadSubject (after : Nat) (f : RxFrame) (s : State) : Host.Outcome State Fault Refusal :=
  .next (withFrame .query f takeQuery (s.advance after))

/-- SNAPSHOT (R180). -/
def execSnapshot (after : Nat) (f : RxFrame) (s : State) : Host.Outcome State Fault Refusal :=
  .next (withFrame .snapshot f takeSnapshot (s.advance after))

/-- RESTART (R181). -/
def execRestart (after : Nat) (f : RxFrame) (s : State) : Host.Outcome State Fault Refusal :=
  .next (withFrame .restart f takeRestart (s.advance after))

/-- REPORT_TIMER_EXPIRY (R172): a snapshot in AUTO, and the timer from 0; nothing in MANUAL. -/
def execReportTimerExpiry (after : Nat) (s : State) : Host.Outcome State Fault Refusal :=
  let t := s.advance after
  .next (if t.inRun && t.cfg.auto && t.acu.report.running then requestedSnapshot t else t)

end Sys2Proof.Machine
end

