-- ==== Sys2Proof/Machine/Revocation.lean ====
section
/-! DEFINITION. The meanings of the revocation commands (chapter 5). -/

namespace Sys2Proof.Machine

/-- A REVOKE_PUSH fits its layout (R192). -/
def pushFits (f : RxFrame) : Bool :=
  decide (2 ≤ f.payload.length) && decide ((byteAt f.payload 1).toNat ≤ 8)
    && decide (f.payload.length = 2 + 9 * (byteAt f.payload 1).toNat)

/-- The records of a push (Table 12-2). -/
def pushedRecords (f : RxFrame) : List (Option RevRecord) :=
  (List.range (byteAt f.payload 1).toNat).map fun i => parsePushed ((f.payload.drop (2 + 9 * i)).take 9)

/-- The JUMP flag is taken only from a gateway (R92). -/
def pushJumps (f : RxFrame) : Bool := (byteAt f.payload 0).getLsbD 0 && decide (sourceClass f.src = .gateway)

/-- RU takes a REVOKE_PUSH (R92, R98). The pull it ends is one outstanding to its source when it came, not one that its own records
have sent (log entry 54). -/
def takePush (f : RxFrame) (s : State) : State :=
  if pushFits f then
    let t := takeRecords f (pushJumps f) (pushedRecords f) s
    if pullIsTo s f then endPull t else t
  else s

/-- The reply to a pull from a sequence (R99). -/
def servedPull (f : RxFrame) (from' : Nat) (s : State) : State :=
  if s.ru.mark < from' then reply .revokePush f [0, 0] s
  else if from' < s.ru.oldest then reply .revokeGap f (be32 s.ru.oldest ++ be32 s.ru.mark) s
  else
    let records := (s.ru.list.drop (from' - s.ru.oldest)).take 8
    reply .revokePush f ([0, BitVec.ofNat 8 records.length] ++ records.flatMap RevRecord.bytes) s

/-- RU serves a REVOKE_PULL (R99, R192). -/
def takePull (f : RxFrame) (s : State) : State :=
  if f.payload.length = 4 then servedPull f (fieldAt f.payload 0 4) s else s

/-- The gap that a REVOKE_GAP from the target shows (R100). -/
def noteGap (g : Nat) (s : State) : State :=
  if s.ru.mark < g then
    let t := raise .dirGap 0 s
    t.setRu { t.ru with gapMark := some (max g (t.ru.gapMark.getD 0)) }
  else s

/-- RU takes a REVOKE_GAP (R98, R100, R192): only from the target of the outstanding pull. -/
def takeGap (f : RxFrame) (s : State) : State :=
  if f.payload.length = 8 ∧ pullIsTo s f then endPull (noteGap (fieldAt f.payload 4 4) s) else s

/-- REVOKE_PUSH (R92). -/
def execRevokePush (after : Nat) (f : RxFrame) (s : State) : Host.Outcome State Fault Refusal :=
  .next (withFrame .revokePush f takePush (s.advance after))

/-- REVOKE_PULL (R99). -/
def execRevokePull (after : Nat) (f : RxFrame) (s : State) : Host.Outcome State Fault Refusal :=
  .next (withFrame .revokePull f takePull (s.advance after))

/-- REVOKE_GAP (R100). -/
def execRevokeGap (after : Nat) (f : RxFrame) (s : State) : Host.Outcome State Fault Refusal :=
  .next (withFrame .revokeGap f takeGap (s.advance after))

/-- PULL_HOLDOFF_EXPIRY (R97): taken in RUN while the timer runs. -/
def execPullHoldoffExpiry (after : Nat) (s : State) : Host.Outcome State Fault Refusal :=
  let t := s.advance after
  .next (if t.inRun && t.ru.holdoff.running then
    testPull (t.setRu { t.ru with holdoff := .stoppedAt pullHoldoffLimit }) else t)

/-- PULL_OUTSTANDING_TIMEOUT (R98): taken in RUN while a pull is outstanding. -/
def execPullOutstandingTimeout (after : Nat) (s : State) : Host.Outcome State Fault Refusal :=
  let t := s.advance after
  .next (if t.inRun && t.ru.outstanding.isSome then endPull t else t)

end Sys2Proof.Machine
end

