-- ==== Sys2Proof/Machine/LineOps.lean ====
section
/-! DEFINITION. LC's shared operations of access to the line: gaps, backoff and the start of a transmission (R117 to R119), and
the bytes it hears (R105). -/

namespace Sys2Proof.Machine

/-! ## Gap and backoff -/

/-- The class gap in bit times (R117). -/
def classGapBits (cls : Nat) : Nat := if cls = 0 then 24 else if cls = 1 then 48 else 72

/-- The class gap in line units. -/
def classGap (cls : Nat) : Nat := classGapBits cls * bitTime

/-- The highest number of slots that may be drawn at an attempt count (R118). -/
def backoffTop (attempts : Nat) : Nat := 2 ^ min (attempts + 1) 6 - 1

/-- The frame in access. -/
def accessFrame (x : Lc) : Option TxFrame :=
  match x.access with
  | none => none
  | some a => x.queue.find? fun g => decide (g.arrival = a)

/-- A frame of the queue replaced by its new version, found by its arrival number. -/
def replaceFrame (f : TxFrame) (x : Lc) : Lc :=
  { x with queue := x.queue.map fun g => if g.arrival = f.arrival then f else g }

/-- The payload of a transmission attempt: that of a BEACON or ALARM is formed now (R115, R119). -/
def attemptPayload (f : TxFrame) (s : State) : List Byte :=
  match f.kind with
  | .beacon => beaconPayload s
  | .alarm => alarmPayload s
  | _ => f.payload

/-- NU has formed the payload of a BEACON (R128): the sequence advances and the holdoff timer restarts. -/
def beaconFormed (s : State) : State := s.setNu { s.nu with seq := s.nu.seq + 1, holdoff := .start }

/-- The transmission of the frame in access begins (R119). -/
def startTransmission (f : TxFrame) (s : State) : State :=
  let bytes := frameBytes (BitVec.ofNat 8 s.cfg.ownAddress) { f with payload := attemptPayload f s }
  let t := if f.kind = .beacon then beaconFormed s else s
  t.setLc { replaceFrame { f with backoff := none } t.lc with phase := .sending, lineOut := bytes }

/-- A frame waits its slots in BACKOFF, or is sent at once with none left (R118). -/
def waitSlots (f : TxFrame) (slots : Nat) (s : State) : State :=
  if slots = 0 then startTransmission f s
  else s.setLc { replaceFrame { f with backoff := some slots } s.lc with phase := .backoff }

/-- A frame in GAP whose class gap has passed enters BACKOFF: with its kept count, or with a new draw (R118). -/
def enterBackoff (f : TxFrame) (s : State) : State :=
  match f.backoff with
  | some kept => waitSlots f kept s
  | none =>
    let d := drawUpTo (backoffTop f.attempts) s
    waitSlots f d.1 d.2

/-- A frame in GAP on an idle line outside a roll-call window. -/
def inOpenGap (x : Lc) : Bool := decide (x.phase = .gap) && !x.busy && x.window.isNone

/-- The idle time has already reached the class gap of the frame in access, which then enters BACKOFF (R117, R121). -/
def gapIfPassed (s : State) : State :=
  match accessFrame s.lc with
  | some f => if inOpenGap s.lc && decide (classGap f.cls ≤ s.lc.idle) then enterBackoff f s else s
  | none => s

/-- A frame leaves the queue, and the head is chosen again if that frame was in access (R117, R118). -/
def leaveQueue (f : TxFrame) (x : Lc) : Lc :=
  let y := { x with queue := removeFrame f.arrival x.queue }
  if x.access = some f.arrival then rechoose y else y

/-! ## Activity on the line -/

/-- Activity on the line: the idle time restarts, and a frame in BACKOFF returns to GAP with its kept count (R117, R118). -/
def activity (x : Lc) : Lc :=
  let y := { x with idle := 0 }
  if x.phase = .backoff then rechoose y else y

/-- A byte after a frame start: counted, and taken into the running CRC (R105). -/
def Reception.take (value : Byte) (framingError : Bool) (r : Reception) : Reception :=
  ⟨r.count + 1, crc16Byte r.crc value, r.framingError || framingError⟩

/-- The receive check state after a byte (R105): a frame start is a 0x7E that follows a 0x55 without an idle gap. A framing error
does not keep a byte from being preamble or frame start (log entry 55). -/
def hearByte (value : Byte) (afterGap framingError : Bool) (x : Lc) : Lc :=
  match x.rx with
  | some r => { x with rx := some (r.take value framingError) }
  | none =>
    if value = 0x7E ∧ x.preamble = true ∧ afterGap = false then { x with rx := some ⟨0, 0xFFFF, false⟩, preamble := false }
    else { x with preamble := decide (value = 0x55) }

end Sys2Proof.Machine
end

