-- ==== Sys2Proof/Machine/Rounds.lean ====
section
/-! DEFINITION. The meanings of the round commands: the roll-call and its window (R121 to R123, R141 to R143), claims and
releases (R144 to R150). -/

namespace Sys2Proof.Machine

/-! ## The roll-call -/

/-- The length of the roll-call window in bit times (R121). -/
def windowBits : Nat := 48 + 55 * 64

/-- The station's slot time in bit times after the end of the ROLLCALL, none at own address 0 (R104, R121). -/
def slotTimeOf (own : Nat) : Option Nat := if own = 0 then none else some (48 + (own - 1) * 64)

/-- A frame in GAP or BACKOFF is suspended (R121). -/
def suspend (p : AccessPhase) : AccessPhase :=
  match p with
  | .gap | .backoff => .suspended
  | .idle | .sending | .suspended => p

/-- LC opens the roll-call window, in place of one that is open (R121, R123); the ROLLCALL ended 20 bit times before (R105). -/
def openWindow (s : State) : State :=
  s.setLc { s.lc with
    window := some ⟨frameEndIdle, slotTimeOf s.cfg.ownAddress, false⟩
    phase := suspend s.lc.phase }

/-- The roll-call that a payload puts in hand, absent for a malformed one (R141). -/
def rollcallInHand (l : List Byte) : Option Rollcall :=
  if 56 ≤ (byteAt l 2).toNat ∧ (byteAt l 2).toNat ≤ 62 then some ⟨byteAt l 0, (byteAt l 1).toNat⟩ else none

/-- A ROLLCALL dispatched: LC opens the window, and RR takes the frame when it fits (R121, R141, R192). -/
def takeRollcall (f : RxFrame) (s : State) : State :=
  let t := openWindow s
  if f.payload.length = 3 then t.setRr (rollcallInHand f.payload) else t

/-- ROLLCALL (R141). -/
def execRollcall (after : Nat) (f : RxFrame) (s : State) : Host.Outcome State Fault Refusal :=
  .next (withFrame .rollcall f takeRollcall (s.advance after))

/-- The container state passes the state test of a roll-call (R142). -/
def pollableState (st : CcState) : Bool :=
  match st with
  | .idle | .granted | .depositing | .full => true
  | .held | .lifted | .missing | .settling | .fault => false

/-- A container is named by the roll-call (R142). -/
def isNamed (s : State) (r : Rollcall) (c : Col) : Bool :=
  pollableState (s.cc.get c).state && !(s.fe.get c).unknown && r.mask.getLsbD (s.ccfg c).fraction
    && decide (r.threshold * 10 ≤ (s.fe.get c).e)

/-- The flags of the named containers (R142). -/
def namedFlags (s : State) (r : Rollcall) : Nat :=
  (s.usedCols.filter (isNamed s r)).foldl (fun a c => a + 2 ^ c.val) 0

/-- The four bytes of a slot reply (R122). -/
def slotReply (own : Nat) (flags : Nat) : List Byte :=
  let body := [BitVec.ofNat 8 own, BitVec.ofNat 8 flags]
  [0x7E] ++ body ++ [crc8 0 body]

/-- The slot reply of the station, none when no container is named (R142). -/
def decideSlot (s : State) : Option (List Byte) :=
  match s.rr with
  | none => none
  | some r => if namedFlags s r = 0 then none else some (slotReply s.cfg.ownAddress (namedFlags s r))

/-- The bit times that a slot reply occupies (R122). -/
def slotReplyBits : Nat := 40

/-- LC at the slot time (R122): the reply is sent on the line as it stands, without gap or backoff. -/
def sendSlot (w : RollWindow) (slot : Nat) (reply? : Option (List Byte)) (x : Lc) : Lc :=
  let y := { x with window := some { w with slotPassed := true, elapsed := max w.elapsed (slot * bitTime) } }
  match reply? with
  | some bytes => { y with lineOut := bytes, ownSlot := slotReplyBits * bitTime, idle := 0 }
  | none => y

/-- ROLLCALL_SLOT_TIME (R122, R142): taken once in a window that gives the station a slot. -/
def execRollcallSlotTime (after : Nat) (s : State) : Host.Outcome State Fault Refusal :=
  let t := s.advance after
  .next (match t.lc.window with
    | none => t
    | some w =>
      match w.slotTime with
      | none => t
      | some slot =>
        if t.inRun && !w.slotPassed then (t.setLc (sendSlot w slot (decideSlot t) t.lc)).setRr none else t)

/-- LC when the window closes (R121): the frame in access returns to GAP, the head chosen again. -/
def closeWindow (x : Lc) : Lc :=
  let y := { x with window := none }
  if x.phase = .suspended ∨ x.phase = .idle then rechoose y else y

/-- ROLLCALL_WINDOW_CLOSE (R121). -/
def execRollcallWindowClose (after : Nat) (s : State) : Host.Outcome State Fault Refusal :=
  let t := s.advance after
  .next (if t.inRun && t.lc.window.isSome then gapIfPassed (t.setLc (closeWindow t.lc)) else t)

/-! ## Claims -/

/-- Causes of a refused claim or release (Table 12-1). -/
inductive ClaimCause | noContainer | badRequest | fault | otherRound | notPresent | notHeld
deriving DecidableEq, Repr

/-- The result of a CLAIM or RELEASE (R144). -/
inductive ClaimResult
  | granted
  | wait
  | done
  | refused (cause : ClaimCause)
deriving DecidableEq, Repr

/-- The code of a claim result (Table 12-1). -/
def ClaimResult.code : ClaimResult → Byte
  | .granted => 0
  | .wait => 1
  | .done => 2
  | .refused _ => 3

/-- The code of a claim cause, 0 when absent (Table 12-1, R193). -/
def ClaimResult.causeCode : ClaimResult → Byte
  | .refused .noContainer => 1
  | .refused .badRequest => 2
  | .refused .fault => 3
  | .refused .otherRound => 4
  | .refused .notPresent => 5
  | .refused .notHeld => 6
  | .granted | .wait | .done => 0

/-- Cases 3 to 11 of R145 with R146, decided on CC's record: the result, and whether CC acts on the claim. -/
def claimCase (x : Cc) (round : Word16) : ClaimResult × Bool :=
  match x.state with
  | .fault => (.refused .fault, false)
  | .settling => (.done, false)
  | .idle => if x.lastEmptied = some round then (.done, false) else (.granted, true)
  | .full => (.granted, true)
  | .granted =>
    match x.waitingRound with
    | none => (.granted, true)
    | some w => if w = round then (.wait, false) else (.refused .otherRound, false)
  | .depositing =>
    match x.waitingRound with
    | none => (.wait, true)
    | some w => if w = round then (.wait, false) else (.refused .otherRound, false)
  | .held => if x.roundId = some round then (.granted, false) else (.refused .otherRound, false)
  | .lifted | .missing => if x.roundId = some round then (.granted, false) else (.refused .notPresent, false)

/-- The container index of a request is the station's (case 1 of R145). -/
def indexKnown (s : State) (f : RxFrame) : Bool := decide ((byteAt f.payload 0).toNat < s.cfg.count)

/-- The container that a request names. -/
def claimCol (f : RxFrame) : Col := Fin.ofNat 4 (byteAt f.payload 0).toNat

/-- The round that a request names. -/
def claimRound (f : RxFrame) : Word16 := BitVec.ofNat 16 (fieldAt f.payload 1 2)

/-- The CLAIM_REPLY for a container of the station (R144). -/
def claimReply (f : RxFrame) (r : ClaimResult) (s : State) : State :=
  reply .claimReply f (f.payload.take 3 ++ [r.code, r.causeCode, BitVec.ofNat 8 (s.cc.get (claimCol f)).state.code,
    BitVec.ofNat 8 (fillPercent (s.fe.get (claimCol f)).e)]) s

/-- The CLAIM_REPLY with cause NO_CONTAINER (R144, R193). -/
def noContainerReply (f : RxFrame) (s : State) : State :=
  let r := ClaimResult.refused .noContainer
  reply .claimReply f (f.payload.take 3 ++ [r.code, r.causeCode, 0xFF, 0]) s

/-- RR decides a CLAIM for a container of the station, and CC acts on it (R145, R146). -/
def decideClaim (f : RxFrame) (s : State) : ClaimResult × State :=
  if claimRound f = 0 then (.refused .badRequest, s)
  else
    let r := claimCase (s.cc.get (claimCol f)) (claimRound f)
    (r.1, if r.2 then takeClaim (claimCol f) (claimRound f) s else s)

/-- RR takes a CLAIM (R144, R145, R192). -/
def answerClaim (f : RxFrame) (s : State) : State :=
  if f.payload.length ≠ 3 then s
  else if indexKnown s f then
    let d := decideClaim f s
    claimReply f d.1 d.2
  else noContainerReply f s

/-- CLAIM (R145). -/
def execClaim (after : Nat) (f : RxFrame) (s : State) : Host.Outcome State Fault Refusal :=
  .next (withFrame .claim f answerClaim (s.advance after))

/-- A RELEASE matches the hold of its container (R149). -/
def releaseMatches (f : RxFrame) (x : Cc) : Bool :=
  decide (x.state = .held) && decide (x.roundId = some (claimRound f))

/-- RR takes a RELEASE (R149, R192). -/
def answerRelease (f : RxFrame) (s : State) : State :=
  if f.payload.length ≠ 3 then s
  else if indexKnown s f then
    if releaseMatches f (s.cc.get (claimCol f)) then claimReply f .granted (leaveHeld (claimCol f) s)
    else claimReply f (.refused .notHeld) s
  else noContainerReply f s

/-- RELEASE (R149). -/
def execRelease (after : Nat) (f : RxFrame) (s : State) : Host.Outcome State Fault Refusal :=
  .next (withFrame .release f answerRelease (s.advance after))

end Sys2Proof.Machine
end

