-- ==== Sys2Proof/Machine/Line.lean ====
section
/-! DEFINITION. The meanings of the street line commands (chapter 6). -/

namespace Sys2Proof.Machine

/-- The owner of a kind takes a dispatched frame (Table 6-3); a kind heard only has none. -/
def ownerOf (k : Kind) (f : RxFrame) (s : State) : State :=
  match k with
  | .beacon => takeBeacon f s
  | .revokePull => takePull f s
  | .revokePush => takePush f s
  | .revokeGap => takeGap f s
  | .time => takeTime f s
  | .dirPut => takeDirPut f s
  | .dirDrop => takeDirDrop f s
  | .rollcall => takeRollcall f s
  | .claim => answerClaim f s
  | .release => answerRelease f s
  | .query => takeQuery f s
  | .snapshot => takeSnapshot f s
  | .restart => takeRestart f s
  | .alarm | .dirResult | .claimReply | .queryReply | .reply => s

/-- A frame of known bytes whose owner is found by its KIND. -/
def receiveRaw (kindByte : Byte) (f : RxFrame) (s : State) : State :=
  match receiveFrame kindByte f s with
  | .stopped t => t
  | .dispatched t =>
    match kindOf kindByte with
    | some k => ownerOf k f t
    | none => t

/-- FRAME_NOT_DISPATCHED (R107 to R109): the seven checks on the bytes as they came; bytes that pass them all are dispatched. -/
def execFrameNotDispatched (after : Nat) (f : RawFrame) (s : State) : Host.Outcome State Fault Refusal :=
  let t := s.advance after
  .next (if t.inRun then
    if rawFrameGood f then receiveRaw (byteAt f.bytes 2) (rawHeader f) t else count .framesRxBad 1 (endReception t)
  else t)

/-- The effect of activity on the line in RUN (R105, R117, R118). -/
def lineHears (signal : LineSignal) (x : Lc) : Lc :=
  match signal with
  | .begins => { activity x with busy := true }
  | .ends => { activity x with busy := false }
  | .byte value afterGap framingError => hearByte value afterGap framingError (activity x)

/-- LINE_ACTIVITY (R118, R105): outside RUN nothing is received (R110, R124). -/
def execLineActivity (after : Nat) (signal : LineSignal) (s : State) : Host.Outcome State Fault Refusal :=
  let t := s.advance after
  .next (if t.inRun then t.setLc (lineHears signal t.lc) else t)

/-- CLASS_GAP_REACHED (R117, R118): the frame in access in GAP on an idle line enters BACKOFF. -/
def execClassGapReached (after : Nat) (s : State) : Host.Outcome State Fault Refusal :=
  let t := s.advance after
  .next (match accessFrame t.lc with
    | some f =>
      if t.inRun && inOpenGap t.lc then enterBackoff f (t.setLc { t.lc with idle := max t.lc.idle (classGap f.cls) })
      else t
    | none => t)

/-- The frame in access is counting slots on an idle line. -/
def inOpenBackoff (x : Lc) : Bool := decide (x.phase = .backoff) && !x.busy

/-- BACKOFF_SLOT_END (R118): one slot fewer, and the transmission begins at 0. -/
def execBackoffSlotEnd (after : Nat) (s : State) : Host.Outcome State Fault Refusal :=
  let t := s.advance after
  .next (match accessFrame t.lc with
    | some f => if t.inRun && inOpenBackoff t.lc then waitSlots f (f.backoff.getD 0 - 1) t else t
    | none => t)

/-- What becomes of a frame after a collision (R119, R120). -/
inductive CollisionFate | late | abandoned | kept
deriving DecidableEq, Repr

/-- The reply deadline of a frame has passed (R120). -/
def deadlinePassed (f : TxFrame) : Bool := f.deadline.any fun d => decide (replyDeadline ≤ d)

/-- The attempts after which a frame is abandoned (R119). -/
def attemptLimit : Nat := 8

/-- The fate of a frame whose attempt count has been raised by the collision. -/
def collisionFate (f : TxFrame) : CollisionFate :=
  if deadlinePassed f then .late else if attemptLimit ≤ f.attempts then .abandoned else .kept

/-- The effect of a collision on the frame being sent (R119, R120): a late or abandoned frame leaves the queue before the counters
are raised, so that an ALARM that COUNTER_FULL calls for does not meet it there (log entry 57). -/
def collide (f : TxFrame) (s : State) : State :=
  let g := { f with attempts := f.attempts + 1 }
  let x := { s.lc with idle := 0 }
  match collisionFate g with
  | .kept => count .collisions 1 (s.setLc (rechoose (replaceFrame g x)))
  | .late => afterDeparture g (count .repliesLate 1 (count .collisions 1 (s.setLc (leaveQueue g x))))
  | .abandoned => afterDeparture g (count .txAbandoned 1 (count .collisions 1 (s.setLc (leaveQueue g x))))

/-- The frame being transmitted, in RUN. -/
def sendingFrame (s : State) : Option TxFrame :=
  if s.inRun && decide (s.lc.phase = .sending) then accessFrame s.lc else none

/-- COLLISION (R119): a bit read back differs from the bit sent. -/
def execCollision (after : Nat) (s : State) : Host.Outcome State Fault Refusal :=
  let t := s.advance after
  .next (match sendingFrame t with
    | some f => collide f t
    | none => t)

/-- The effect of a transmission sent without a difference (R119). -/
def sent (f : TxFrame) (s : State) : State :=
  afterDeparture f (count .framesTx 1 (s.setLc (leaveQueue f { s.lc with idle := 0 })))

/-- TRANSMISSION_COMPLETE (R119). -/
def execTransmissionComplete (after : Nat) (s : State) : Host.Outcome State Fault Refusal :=
  let t := s.advance after
  .next (match sendingFrame t with
    | some f => sent f t
    | none => t)

/-- The effect of the deadline of a reply in the queue (R120): discarded as late, unless it is being sent. -/
def deadlineExpires (f : TxFrame) (s : State) : State :=
  if s.lc.isSending f then
    s.setLc (replaceFrame { f with deadline := some (max replyDeadline (f.deadline.getD 0)) } s.lc)
  else afterDeparture f (count .repliesLate 1 (s.setLc (leaveQueue f s.lc)))

/-- REPLY_DEADLINE_EXPIRY (R120): of the frame at a position of the queue, when it is a reply. -/
def execReplyDeadlineExpiry (after : Nat) (position : Nat) (s : State) : Host.Outcome State Fault Refusal :=
  let t := s.advance after
  .next (match t.lc.queue[position]? with
    | some f => if t.inRun && f.deadline.isSome then deadlineExpires f t else t
    | none => t)

/-- SILENCE_TIMER_EXPIRY (R113): taken in RUN while the timer runs. -/
def execSilenceTimerExpiry (after : Nat) (s : State) : Host.Outcome State Fault Refusal :=
  let t := s.advance after
  .next (if t.inRun && t.lc.silence.running then
    raise .lineSilent 0 (t.setLc { t.lc with silence := .stoppedAt silenceLimit }) else t)

end Sys2Proof.Machine
end

