-- ==== Sys2Proof/Machine/Measurement.lean ====
section
/-! DEFINITION. The meanings of the measurement commands (chapter 2). -/

namespace Sys2Proof.Machine

/-- The effect of a periodic timer's expiry (R23, R24): the timer restarts, and the cause sets the flag. -/
def periodicExpires (c : Col) (s : State) : State :=
  requestMeasurement c (s.setEuCol c { s.eu.cols.get c with periodic := .start })

/-- EU_PERIODIC_TIMER_EXPIRY (R24): taken while the timer runs. -/
def execEuPeriodicTimerExpiry (after : Nat) (c : Col) (s : State) : Host.Outcome State Fault Refusal :=
  let t := s.advance after
  .next (if t.serves c && (t.eu.cols.get c).periodic.running then periodicExpires c t else t)

/-- SETTLE_TIMER_EXPIRY (R24): taken while the timer runs. -/
def execSettleTimerExpiry (after : Nat) (c : Col) (s : State) : Host.Outcome State Fault Refusal :=
  let t := s.advance after
  let x := t.eu.cols.get c
  .next (if t.serves c && x.settle.running then requestMeasurement c (t.setEuCol c { x with settle := .zero }) else t)

/-- RETURN_TIMER_EXPIRY (R24): taken while the timer runs. -/
def execReturnTimerExpiry (after : Nat) (c : Col) (s : State) : Host.Outcome State Fault Refusal :=
  let t := s.advance after
  let x := t.eu.cols.get c
  .next (if t.serves c && x.ret.running then requestMeasurement c (t.setEuCol c { x with ret := .zero }) else t)

/-- The measurement in flight in a phase. -/
def State.inPhase (s : State) (p : MeasPhase) : Option Measurement :=
  if s.inRun then s.eu.inFlight.filter fun m => decide (m.phase = p) else none

/-- The carrier frequency of a carrier code, in kHz (R28). -/
def carrierKhz (code : Nat) : Nat :=
  match code with
  | 0 => 40
  | 1 => 48
  | 2 => 58
  | _ => 70

/-- The length of a container's burst in whole microseconds, rounded down: the burst length in carrier cycles (R28). -/
def burstMicros (k : ContainerConfig) : Nat := k.burst * 1000 / carrierKhz k.carrier

/-- The drive of a transducer `us` microseconds after the burst began (R28): the burst length in cycles at the carrier frequency,
each cycle high for the first half of its period and low for the second (log entry 60); low after the last cycle. -/
def burstHigh (k : ContainerConfig) (us : Nat) : Bool :=
  let half := us * (2 * carrierKhz k.carrier) / 1000
  decide (half < 2 * k.burst) && decide (half % 2 = 0)

/-- The output "burst out" of a container's transducer (00 section 3, R28): driven in BURST of its own measurement, else low. -/
def State.transducerHigh (s : State) (c : Col) : Bool :=
  match s.inPhase .burst with
  | some m => decide (m.cont = c) && burstHigh (s.ccfg c) m.elapsed
  | none => false

/-- BURST_END (R28): at the end of the last carrier cycle the measurement enters BLANK. -/
def execBurstEnd (after : Nat) (s : State) : Host.Outcome State Fault Refusal :=
  let t := s.advance after
  .next (match t.inPhase .burst with
    | some m =>
      let elapsed := max m.elapsed (burstMicros (t.ccfg m.cont))
      t.setEu { t.eu with inFlight := some { m with phase := .blank, elapsed := elapsed } }
    | none => t)

/-- BLANK_END (R29): NEAR when the receive signal is above the threshold at that moment, else LISTEN, from the blanking time on. -/
def execBlankEnd (after : Nat) (above : Bool) (s : State) : Host.Outcome State Fault Refusal :=
  let t := s.advance after
  .next (match t.inPhase .blank with
    | some m =>
      if above then endMeasurement m .near t
      else t.setEu { t.eu with inFlight := some { m with phase := .listen, elapsed := max m.elapsed m.blanking } }
    | none => t)

/-- ECHO_RISE (R29): an echo time below 30,000 µs. -/
def execEchoRise (after : Nat) (s : State) : Host.Outcome State Fault Refusal :=
  let t := s.advance after
  .next (match t.inPhase .listen with
    | some m => if m.elapsed < listenLimit then endMeasurement m (.time m.elapsed) t else t
    | none => t)

/-- LISTEN_END (R29): NO_ECHO. -/
def execListenEnd (after : Nat) (s : State) : Host.Outcome State Fault Refusal :=
  let t := s.advance after
  .next (match t.inPhase .listen with
    | some m => endMeasurement m .noEcho t
    | none => t)

/-- The degrees are a good read (R26). -/
def goodDegrees (d : Int) : Bool := decide (-55 ≤ d) && decide (d ≤ 125)

/-- TEMPERATURE_READ (R26): in every phase; a failed read or a value outside the range leaves the held temperature. -/
def execTemperatureRead (after : Nat) (value : Option Int) (s : State) : Host.Outcome State Fault Refusal :=
  let t := s.advance after
  .next (match value with
    | some d => if t.cl.powered && goodDegrees d then t.setEu { t.eu with temperature := d } else t
    | none => t)

end Sys2Proof.Machine
end

