-- ==== Sys2Proof/Machine/Power.lean ====
section
/-! DEFINITION. The meanings of the power and RESET_N commands (R183, R63). -/

namespace Sys2Proof.Machine

/-- A byte of a slot whose write a loss of power cut: bits of the old image and of the new one, chosen by a free mask (R63; log
entry 9). -/
def cutByte (mask old new : Byte) : Byte := (old &&& ~~~mask) ||| (new &&& mask)

/-- The bytes of the slot whose write was cut (R63). -/
def cutBytes (draw : Nat) (old new : List Byte) : List Byte :=
  (List.range new.length).map fun i => cutByte (Config.freeCut draw i) (byteAt old i) (byteAt new i)

/-- A loss of power cuts the write in flight short (R63). -/
def cutWrite (s : State) : State :=
  match s.sc.inFlight with
  | none => s
  | some item =>
    let mixed : StoreItem := ⟨item.slot, cutBytes s.freeIndex (readSlot s.sc.store item.slot) item.bytes⟩
    { s with sc := { s.sc with store := writeSlot s.sc.store mixed, inFlight := none }, freeIndex := s.freeIndex + 1 }

/-- A loss of power (R63, R183): the store stays as the cut leaves it, and everything else is lost. -/
def losePower (s : State) : State :=
  let t := coldBlocks (cutWrite s)
  t.setCl { t.cl with powered := false }

/-- The start by power-on (R183): cold; held at its beginning while RESET_N is low. -/
def startPowered (s : State) : State :=
  let t := coldBlocks s
  let u := t.setCl { t.cl with powered := true }
  if u.cl.resetLow then u else beginWork u

/-- POWER_ON (R183): a POWER_ON while the part is powered stands for a loss of power and its return (log entry 3). -/
def execPowerOn (after : Nat) (s : State) : Host.Outcome State Fault Refusal :=
  let t := s.advance after
  .next (startPowered (if t.cl.powered then losePower t else t))

/-- LOSS_OF_POWER (R63). -/
def execLossOfPower (after : Nat) (s : State) : Host.Outcome State Fault Refusal :=
  let t := s.advance after
  .next (if t.cl.powered then losePower t else t)

/-- The effect of RESET_N driven low (R183): a start begins and is held. -/
def driveResetLow (s : State) : State :=
  let t := if s.cl.powered then resetBlocks s else s
  t.setCl { t.cl with resetLow := true }

/-- RESET_N_LOW (R183): an input that is low already does not fall. -/
def execResetNLow (after : Nat) (s : State) : Host.Outcome State Fault Refusal :=
  let t := s.advance after
  .next (if t.cl.resetLow then t else driveResetLow t)

/-- The effect of RESET_N returning high (R183): the work of STARTING begins. -/
def releaseReset (s : State) : State :=
  let t := s.setCl { s.cl with resetLow := false }
  if t.cl.powered then beginWork t else t

/-- RESET_N_HIGH (R183): an input that is high already does not rise. -/
def execResetNHigh (after : Nat) (s : State) : Host.Outcome State Fault Refusal :=
  let t := s.advance after
  .next (if t.cl.resetLow then releaseReset t else t)

end Sys2Proof.Machine
end

