-- ==== Sys2Proof/Machine/CardChecks.lean ====
section
/-! DEFINITION. The ordered card checks (R69 to R73), redirect selection (R84 to R87), refusals (R83) and the grant request (R74 to
R77). -/

namespace Sys2Proof.Machine

/-! ## The checks -/

/-- The grant of a container is closing (R71). -/
def closing (s : State) (c : Col) : Bool :=
  (s.au.get c).grant.any (fun g => g.active) && ((s.cc.get c).waitingRound.isSome || (s.cc.get c).pendingEnd.isSome)

/-- A grant record at another container carries the card (check 7). -/
def holdsElsewhere (s : State) (c : Col) (card : Word32) : Bool :=
  cols.any fun d => decide (d ≠ c) && (s.au.get d).grant.any fun g => decide (g.card = card)

/-- Another card holds this container's grant, and the grant is not closing (check 8). -/
def heldByAnother (s : State) (c : Col) (card : Word32) : Bool :=
  (s.au.get c).grant.any (fun g => decide (g.card ≠ card)) && !closing s c

/-- The container's fraction is metered (R72). -/
def meteredFraction (s : State) (c : Col) : Bool := s.cfg.metered.getLsbD (s.ccfg c).fraction

/-- The cap of an entry's cap class (R72). -/
def capOf (s : State) (e : DirEntry) : Nat := s.cfg.caps.get e.capClass

/-- The card's deposits at the container are limited: the fraction is metered and the cap above 0 (R72, R74). -/
def limited (s : State) (c : Col) (e : DirEntry) : Bool := meteredFraction s c && decide (0 < capOf s e)

/-- The usage has reached the cap (check 9). -/
def capReached (s : State) (c : Col) (w : DirWay) : Bool := limited s c w.entry && decide (capOf s w.entry ≤ w.usage)

/-- Checks 4 to 10 on the entry that the lookup found; CLOSED stands for a failing check 10. -/
def judgeEntry (s : State) (c : Col) (card : Word32) (issue : Byte) (w : DirWay) : Option IndCode :=
  if w.entry.blocked then some .blocked
  else if w.entry.issue ≠ issue then some .staleCard
  else if !w.entry.mask.getLsbD (s.ccfg c).fraction then some .notPermitted
  else if holdsElsewhere s c card then some .cardInUse
  else if heldByAnother s c card then some .busy
  else if capReached s c w then some .capReached
  else if (s.cc.get c).state ≠ .idle then some .closed
  else none

/-- The high 12 bits of a card number, its district prefix (R70). -/
def prefixOf (card : Word32) : Nat := card.toNat / 1048576

/-- Checks 1 to 10 in order (Table 4-2): the result of the first that fails, none when all pass. -/
def judge (s : State) (c : Col) (card : Word32) (issue : Byte) (readFault : Bool) : Option IndCode :=
  if readFault then some .readFault
  else if prefixOf card ≠ s.cfg.districtPrefix then some .foreign
  else
    match lookupCard card s with
    | none => some .unknown
    | some (_, w) => judgeEntry s c card issue w

/-! ## Redirect selection -/

/-- A redirect candidate with the keys of R86: class code, own before neighbours', rank (8 for none), fill percent, station
address, container index. -/
structure Candidate where
  cls : Nat
  neighbour : Nat
  rank : Nat
  fill : Nat
  address : Nat
  cont : Nat
deriving DecidableEq, Repr

/-- The keys in their order (R86). -/
def Candidate.keys (x : Candidate) : List Nat := [x.cls, x.neighbour, x.rank, x.fill, x.address, x.cont]

/-- One list of keys comes before another. -/
def keysBefore : List Nat → List Nat → Bool
  | a :: l, b :: m => decide (a < b) || (decide (a = b) && keysBefore l m)
  | _, _ => false

/-- An own container is a candidate for a refusal at container `c` (R84). -/
def ownCandidate (s : State) (c d : Col) : Bool :=
  decide (d ≠ c) && decide ((s.ccfg d).fraction = (s.ccfg c).fraction) && decide ((s.cc.get d).state = .idle)
    && !(s.fe.get d).unknown

/-- The own candidates (R84). -/
def ownCandidates (s : State) (c : Col) : List Candidate :=
  (s.usedCols.filter (ownCandidate s c)).map fun d =>
    ⟨(s.fe.get d).cls.code, 0, 0, fillPercent (s.fe.get d).e, s.cfg.ownAddress, d.val⟩

/-- An entry of the neighbour table is fresh (R132). -/
def isFresh (s : State) (n : Neighbour) : Bool := decide (n.age ≤ 3 * s.cfg.beaconInterval)

/-- The entry may be named: fresh, not marginal and allowed (R85). -/
def mayName (s : State) (n : Neighbour) : Bool := isFresh s n && !n.marginal && (n.rank.isSome || s.cfg.openRedirect)

/-- A neighbour's container is a candidate: same fraction, accepting, known (R85). -/
def summaryCandidate (s : State) (c : Col) (x : Summary) : Bool :=
  decide (x.fraction.toNat = (s.ccfg c).fraction) && decide (x.group.toNat = Group.accepting.code) && !x.unknown

/-- The candidates of one entry of the neighbour table (R85). -/
def entryCandidates (s : State) (c : Col) (n : Neighbour) : List Candidate :=
  if mayName s n then
    (n.summaries.zipIdx.filter fun p => summaryCandidate s c p.1).map fun p =>
      ⟨p.1.cls.toNat, 1, n.rank.getD 8, p.1.fillPercent.toNat, n.address, p.2⟩
  else []

/-- All candidates for a refusal at container `c`. -/
def candidates (s : State) (c : Col) : List Candidate := ownCandidates s c ++ s.nu.table.flatMap (entryCandidates s c)

/-- The first of two candidates in the order of R86. -/
def firstCandidate : Option Candidate → Candidate → Option Candidate
  | none, y => some y
  | some x, y => if keysBefore y.keys x.keys then some y else some x

/-- The redirect target, none when there is no candidate (R86). -/
def redirectTarget (s : State) (c : Col) : Option Target :=
  ((candidates s c).foldl firstCandidate none).map fun x => ⟨x.address, x.cont⟩

/-! ## Refusals -/

/-- A presentation refused with a result (R83): counted, answered and recorded. -/
def refuse (c : Col) (cause : IndCode) (card : Option Word32) (target : Option Target) (s : State) : State :=
  let t := count .refusals 1 s
  let u := if cause = .redirect then count .redirects 1 t else t
  offerRecord c (s.fe.get c).e (.refusal cause card target) (indicate c ⟨cause, 0, 0, target, none⟩ u)

/-- A presentation that fails check 10 (R73): REDIRECT with the chosen target, or CLOSED. -/
def refuseClosed (c : Col) (card : Word32) (s : State) : State :=
  match redirectTarget s c with
  | some target => refuse c .redirect (some card) (some target) s
  | none => refuse c .closed (some card) none s

/-- A presentation that fails a check (R69, R83). -/
def refuseFor (c : Col) (cause : IndCode) (card : Word32) (s : State) : State :=
  match cause with
  | .closed => refuseClosed c card s
  | .readFault => refuse c .readFault none none s
  | other => refuse c other (some card) none s

/-! ## Grants -/

/-- The cycles allowed of a grant (R76). -/
def cyclesAllowed (s : State) (c : Col) (w : DirWay) : Nat :=
  if limited s c w.entry then min (s.ccfg c).cycles (capOf s w.entry - w.usage) else (s.ccfg c).cycles

/-- The window length of a grant (R77). -/
def windowFor (s : State) (e : DirEntry) : Nat := if e.assist then 2 * s.cfg.grantWindow else s.cfg.grantWindow

/-- The grant record of a request (R74, R75). DESIGN CHOICE: the window timer is 0 and stopped while the record is REQUESTED; R74
sets it when the grant is taken (log entry 63). -/
def newGrant (s : State) (c : Col) (card : Word32) (w : DirWay) : Grant where
  active := false
  card := card
  metered := limited s c w.entry
  allowed := cyclesAllowed s c w
  done := 0
  windowLength := windowFor s w.entry
  window := .zero
  revoked := false

/-- AU fills the grant record and sends CC the request (R75). -/
def requestGrant (c : Col) (card : Word32) (s : State) : State :=
  match lookupCard card s with
  | some (_, w) => s.setAu c { s.au.get c with grant := some (newGrant s c card w) }
  | none => s

/-- The holder's presentation (R79, R77): the window from 0, running unless the drum is open, and GRANT with the cycles left. -/
def holderPresents (c : Col) (g : Grant) (s : State) : State :=
  let run := decide ((s.cc.get c).state = .granted)
  indicate c ⟨.grant, g.allowed - g.done, g.windowLength, none, none⟩ (setWindow c (fun _ => ⟨0, run⟩) s)

/-- Whether a presentation is the holder's or is discarded at a REQUESTED record (R69). -/
def matchingGrant (s : State) (c : Col) (card : Word32) (readFault : Bool) : Option Grant :=
  if readFault then none else (s.au.get c).grant.filter fun g => decide (g.card = card)

/-- A presentation in RUN (R69). -/
def present (c : Col) (card : Word32) (issue : Byte) (readFault : Bool) (s : State) : State :=
  let t := count .cardsPresented 1 s
  match matchingGrant t c card readFault with
  | some g => if g.active then holderPresents c g t else t
  | none =>
    match judge t c card issue readFault with
    | some cause => refuseFor c cause card t
    | none => requestGrant c card t

/-- CC takes the grant request in IDLE (R7). -/
def takeGrant (c : Col) (s : State) : State :=
  enterState c .granted
    (s.setCc c { s.cc.get c with pendingEnd := none, drumTimer := .zero, opening := .zero })

/-- AU issues the grant that CC has taken (R75, R82). -/
def issueGrant (c : Col) (g : Grant) (s : State) : State :=
  let t := s.setAu c { s.au.get c with grant := some { g with active := true, window := .start } }
  let u := indicate c ⟨.grant, g.allowed, g.windowLength, none, none⟩ (count .grants 1 t)
  if g.revoked then curtail c .curtailedRevoked u else u

/-- CC answers a grant request (R75): taken in IDLE, else refused, the presentation judged as failing check 10. -/
def answerRequest (c : Col) (g : Grant) (s : State) : State :=
  if (s.cc.get c).state = .idle then issueGrant c g (takeGrant c s)
  else refuseClosed c g.card (s.setAu c { s.au.get c with grant := none })

end Sys2Proof.Machine
end

