-- ==== Sys2Proof/Machine/Reader.lean ====
section
/-! DEFINITION. The meanings of the reader channel and grant commands (chapter 4). -/

namespace Sys2Proof.Machine

/-- AU takes messages on the channel: powered, RESET_N not held low (R67), and in RUN a channel of the station. -/
def takesMessages (s : State) (c : Col) : Bool :=
  s.cl.powered && !s.cl.resetLow && (decide (s.cl.phase ≠ .run) || s.inUse c)

/-- A CARD_READ taken on a channel (R69): judged in RUN, answered OUT_OF_SERVICE in STARTING and SAFE. -/
def cardReadTaken (c : Col) (card : Word32) (issue : Byte) (readFault : Bool) (s : State) : State :=
  if takesMessages s c then
    if s.inRun then present c card issue readFault s else indicate c (.plain .outOfService) s
  else s

/-- CARD_READ (R69). -/
def execCardRead (after : Nat) (c : Col) (card : Word32) (issue : Byte) (readFault : Bool) (s : State) :
    Host.Outcome State Fault Refusal :=
  .next (cardReadTaken c card issue readFault (s.advance after))

/-- A REPEAT taken on a channel (R67). -/
def repeatTaken (c : Col) (s : State) : State := if takesMessages s c then repeatLast c s else s

/-- REPEAT (R67). -/
def execRepeat (after : Nat) (c : Col) (s : State) : Host.Outcome State Fault Refusal :=
  .next (repeatTaken c (s.advance after))

/-- READER_MESSAGE_DISCARDED (R67): a message that fails its test is not answered; bytes that spell a message are taken as it. -/
def execReaderMessageDiscarded (after : Nat) (c : Col) (bytes : List Byte) (s : State) :
    Host.Outcome State Fault Refusal :=
  let t := s.advance after
  .next (match parseReaderMessage bytes with
    | none => t
    | some (.cardRead card issue readFault) => cardReadTaken c card issue readFault t
    | some .repeatIndication => repeatTaken c t)

/-- INDICATION_SEND_COMPLETE (R68): the waiting indication, if any, is sent. -/
def execIndicationSendComplete (after : Nat) (c : Col) (s : State) : Host.Outcome State Fault Refusal :=
  let t := s.advance after
  let x := t.au.get c
  .next (if x.sending.isSome then t.setAu c { x with sending := x.waiting, waiting := none } else t)

/-- GRANT_REQUEST (R7, R75): taken while the container's grant record is REQUESTED. -/
def execGrantRequest (after : Nat) (c : Col) (s : State) : Host.Outcome State Fault Refusal :=
  let t := s.advance after
  .next (if t.serves c then
    match (t.au.get c).grant with
    | some g => if g.active then t else answerRequest c g t
    | none => t
  else t)

/-- The grant record of the container is ACTIVE. -/
def grantActive (s : State) (c : Col) : Bool := (s.au.get c).grant.any fun g => g.active

/-- WINDOW_TIMER_EXPIRY (R78, R12): taken by CC in GRANTED, ignored in other states and after the grant's end. -/
def execWindowTimerExpiry (after : Nat) (c : Col) (s : State) : Host.Outcome State Fault Refusal :=
  let t := s.advance after
  .next (if t.serves c && grantActive t c && decide ((t.cc.get c).state = .granted) then endGrant c .window t else t)

end Sys2Proof.Machine
end

