-- ==== Sys2Proof/Machine/StoreLoad.lean ====
section
/-! DEFINITION. The store work of STARTING (R187): the directory load (R65), the rebuild and reconciliation of the revocation list
(R101, R102) and the log scan (R163). -/

namespace Sys2Proof.Machine

/-- The usage counter kept for a slot: that of the image before, when the slot held the same card (R66). -/
def keptUsage (before : List (Nat × DirWay)) (slot : Nat) (card : Word32) : Nat :=
  match Sparse.get slot before with
  | some w => if w.entry.card = card then w.usage else 0
  | none => 0

/-- One slot read into the image, or noted as misplaced or doubled (R65). -/
def loadSlot (store : List Host.Cell) (before : List (Nat × DirWay)) (acc : List (Nat × DirWay) × List Nat) (slot : Nat) :
    List (Nat × DirWay) × List Nat :=
  match parseDirEntry (readSlot store (.dir slot)) with
  | none => acc
  | some e =>
    if bucketOf e.card = slot / 8 ∧ acc.1.any (holdsCard e.card) = false then
      (Sparse.put slot ⟨e, keptUsage before slot e.card⟩ acc.1, acc.2)
    else (acc.1, acc.2 ++ [slot])

/-- The directory load (R65): the image, and the slots whose empty image is to be written. -/
def loadDirectory (store : List Host.Cell) (before : List (Nat × DirWay)) : List (Nat × DirWay) × List Nat :=
  (List.range 2048).foldl (loadSlot store before) ([], [])

/-- The base the store gives (R101). -/
def storedBase (store : List Host.Cell) : Nat := parseBase (readSlot store (.rev 64))

/-- The record of a slot that takes part in the rebuild (R101). -/
def takingPart (store : List Host.Cell) (base slot : Nat) : Option RevRecord :=
  match parseRevRecord (readSlot store (.rev slot)) with
  | some r => if r.seq % 64 = slot ∧ base < r.seq then some r else none
  | none => none

/-- The records that take part (R101). -/
def storedRecords (store : List Host.Cell) (base : Nat) : List RevRecord := (List.range 64).filterMap (takingPart store base)

/-- The run of records from a sequence downward, in ascending order (R101). -/
def recordRun (found : List RevRecord) : Nat → Nat → List RevRecord → List RevRecord
  | 0, _, acc => acc
  | n + 1, seq, acc =>
    match found.find? fun r => decide (r.seq = seq) with
    | some r => recordRun found n (seq - 1) (r :: acc)
    | none => acc

/-- The highest of some numbers, 0 of none. -/
def highest (l : List Nat) : Nat := l.foldl max 0

/-- RU's list, base and mark rebuilt (R101). -/
def rebuildRevocations (store : List Host.Cell) (x : Ru) : Ru :=
  let base := storedBase store
  let found := storedRecords store base
  let top := highest (found.map RevRecord.seq)
  { x with base := base, list := recordRun found 64 top [], mark := if found = [] then base else top }

/-- The status of a card's entry in an image set (R55, R102). -/
def setStatus (image : List (Nat × DirWay)) (card : Word32) (blocked : Bool) : List (Nat × DirWay) :=
  image.map fun p => if holdsCard card p then (p.1, { p.2 with entry := { p.2.entry with blocked := blocked } }) else p

/-- The list reconciled into an image, oldest record first (R102). -/
def reconcile (list : List RevRecord) (image : List (Nat × DirWay)) : List (Nat × DirWay) :=
  list.foldl (fun im r => setStatus im r.card r.block) image

/-- The slots whose entry's status differs from the loaded one, in slot order (R102). -/
def changedSlots (loaded now : List (Nat × DirWay)) : List Nat :=
  (now.filter fun p => decide ((Sparse.get p.1 loaded).map (fun w => w.entry.blocked) ≠ some p.2.entry.blocked)).map
    fun p => p.1

/-- The indices of the log slots that take part in the scan (R163). -/
def storedIndices (store : List Host.Cell) : List Nat :=
  (List.range 1024).filterMap fun slot =>
    match parseLogIndex (readSlot store (.log slot)) with
    | some i => if i % 1024 = slot then some i else none
    | none => none

/-- The lowest index of the run downward from an index (R163). -/
def lowestOfRun (held : List Nat) : Nat → Nat → Nat
  | 0, i => i
  | n + 1, i => if 0 < i ∧ held.contains (i - 1) then lowestOfRun held n (i - 1) else i

/-- The log scan (R163); the next index never exceeds its last value (R159; log entry 24). -/
def scanLog (store : List Host.Cell) : Dl :=
  match storedIndices store with
  | [] => ⟨0, 0⟩
  | i :: l => ⟨lowestOfRun (i :: l) 1023 (highest (i :: l)), min lastIndex (highest (i :: l) + 1)⟩

/-- The four steps of the store work in their order (R187). -/
def storeWork (s : State) : State :=
  let loaded := loadDirectory s.sc.store s.cd.image
  let ru := rebuildRevocations s.sc.store s.ru
  let image := reconcile ru.list loaded.1
  let t := (s.setCd { s.cd with image := image }).setRu ru
  let u := t.setDl (scanLog s.sc.store)
  placeHeld (loaded.2 ++ changedSlots loaded.1 image) u

end Sys2Proof.Machine
end

