-- ==== Sys2Proof/Machine/Start.lean ====
section
/-! DEFINITION. The meanings of the start-up commands (chapter 11): the reading of the image, the store work, the derivation of the
container states and the entry to RUN. -/

namespace Sys2Proof.Machine

/-- STARTING is at a stage, powered and not held by RESET_N (R183). -/
def State.atStage (s : State) (st : StartStage) : Bool :=
  s.cl.powered && !s.cl.resetLow && decide (s.cl.phase = .starting) && decide (s.cl.stage = st)

/-! ## The reading of the image -/

/-- The live DEPOSITS counters of the containers at or above the count are 0 (R169, R190). -/
def depositsInUse (count : Nat) (k : Counters) : Counters :=
  { k with deposits := Quad.ofFn fun c => if c.val < count then k.deposits.get c else 0 }

/-- A good image takes effect (R184, R185, R31, R46, R190). -/
def takeImage (b : List Byte) (s : State) : State :=
  let image := imageInForce b
  let used := fun (c : Col) => decide (c.val < image.count)
  let feClamps := cols.any fun c => used c && (image.containers.get c).feClamps
  { s with
    cl := { s.cl with image := image, clamped := clampApplied b || feClamps, stage := .storeWork }
    cc := Quad.ofFn fun c => if used c then s.cc.get c else .cold
    eu := { s.eu with
      cols := Quad.ofFn fun c => if used c then s.eu.cols.get c else .cold
      pointer := image.count - 1 }
    fe := Quad.ofFn fun c => if used c then (s.fe.get c).underImage (image.containers.get c) else .cold
    acu := { s.acu with live := depositsInUse image.count s.acu.live } }

/-- CC's record in SAFE (R186): FAULT with drive ENGAGE; the round id goes with the state it belonged to (log entry 25). -/
def Cc.inSafe (x : Cc) : Cc := { x with state := .fault, drive := .engage, roundId := none }

/-- A bad image: the station enters SAFE (R184, R186). DESIGN CHOICE: RU's base is 0 beside the empty list and the mark 0 that R101
and R186 name (log entry 64). -/
def enterSafe (s : State) : State :=
  { s with
    cl := { s.cl with phase := .safe, safe := true, clamped := false, image := .blank }
    cc := Quad.ofFn fun c => (s.cc.get c).inSafe
    cd := ⟨[], []⟩
    ru := { s.ru with list := [], base := 0, mark := 0 }
    dl := ⟨0, 0⟩
    acu := .cold
    sc := { s.sc with counterFullDue := false } }

/-- CONFIGURATION_IMAGE_READ (R184): taken when the store has no write in flight. -/
def execConfigurationImageRead (after : Nat) (image : List Byte) (s : State) : Host.Outcome State Fault Refusal :=
  let t := s.advance after
  .next (if t.atStage .image && t.sc.inFlight.isNone then
    if imageGood image then takeImage image t else enterSafe t
  else t)

/-! ## The store work -/

/-- STARTING_STORE_WORK (R187): taken when the store is free. -/
def execStartingStoreWork (after : Nat) (s : State) : Host.Outcome State Fault Refusal :=
  let t := s.advance after
  .next (if t.atStage .storeWork && t.sc.inFlight.isNone then
    storeWork (t.setCl { t.cl with stage := .derivation })
  else t)

/-! ## The derivation -/

/-- The inputs as the derivation takes them: one that has not settled at its fixed level (R188). -/
def Cc.fixedLevels (x : Cc) : Cc :=
  { x with
    drum := if x.drumSettled then x.drum else .opened
    sense := if x.senseSettled then x.sense else .released
    present := if x.presentSettled then x.present else .present }

/-- The container's state derived from its inputs and FE's class and estimate (R188), the drive ENGAGE as on every entry to one
of these states (R3). -/
def Cc.derived (x : Cc) (fe : Fe) : Cc :=
  let y := { x.fixedLevels with cls := fe.cls, drive := .engage }
  match y.present, y.drum with
  | .present, .closed => { y with state := stateByClass fe.cls, roundId := none }
  | .present, .opened => { y with state := .fault, roundId := none }
  | .absent, _ =>
    { y with
      state := .lifted
      roundId := some (x.roundId.getD 0)
      lift := .zero
      fillBefore := if x.state = .lifted ∨ x.state = .missing then x.fillBefore else fe.e }

/-- CC's part of the entry to RUN (R189): the confirmation timer of a disagreeing lock, the drum-open timer of an open drum, the
lift timer of a lifted container. -/
def Cc.enterRun (x : Cc) : Cc :=
  { x with
    confirm := ⟨0, decide (x.sense = .released) && decide (x.drum = .closed)⟩
    drumTimer := if x.drum = .opened then .start else .zero
    lift := ⟨0, decide (x.state = .lifted)⟩ }

/-- The derivation of every container of the station (R188). -/
def deriveStates (s : State) : State :=
  { s with cc := Quad.ofFn fun c => if s.inUse c then (s.cc.get c).derived (s.fe.get c) else s.cc.get c }

/-! ## Entry to RUN -/

/-- EU's fields of one container at entry to RUN (R24, R46): the periodic timer starts, and a container whose record holds its
cold-reset values has its request flag set when it reads PRESENT. -/
def EuCol.enterRun (x : EuCol) (level : PresentLevel) : EuCol :=
  { x with periodic := .start, request := x.fresh && decide (level = .present), fresh := false }

/-- EU's fields of container `c` at entry to RUN. -/
def euAtEntry (s : State) (c : Col) : EuCol :=
  if s.inUse c then (s.eu.cols.get c).enterRun (s.cc.get c).present else s.eu.cols.get c

/-- The READY indication formed for a channel (R68). -/
def Au.ready (x : Au) : Au := ({ x with last := .plain .ready } : Au).send (.plain .ready)

/-- The blocks' own values at entry to RUN (Table 11-1): CL, CC, EU, LC, TU, ACU, and the READY indications. -/
def enterRunBlocks (s : State) : State :=
  { s with
    cl := { s.cl with phase := .run, startKind := .warm }
    cc := Quad.ofFn fun c => if s.inUse c then (s.cc.get c).enterRun else s.cc.get c
    eu := { s.eu with cols := Quad.ofFn fun c => euAtEntry s c }
    au := Quad.ofFn fun c => if s.inUse c then (s.au.get c).ready else s.au.get c
    lc := { s.lc with idle := 0, busy := false, silence := .start }
    tu := { s.tu with aging := if s.tu.hops = 15 then .zero else .start }
    acu := { s.acu with report := .start } }

/-- NU at entry to RUN (R126): the periodic timer drawn from 0 to the interval. -/
def startBeacons (s : State) : State :=
  let d := drawUpTo s.cfg.beaconInterval s
  d.2.setNu { d.2.nu with periodicLeft := d.1 * second, holdoff := .stoppedAt beaconHoldoffLimit, early := false }

/-- ECHO_FAIL raised again for each container whose kept echo-fail count is 6 or more (R46). -/
def raiseEchoFails (s : State) : State :=
  s.usedCols.foldl (fun t c => if 6 ≤ (t.fe.get c).echoFail then raise .echoFail c t else t) s

/-- The conditions raised once at entry to RUN (R182, R189): CONFIG_CLAMPED, then LOG_LOST and COUNTER_FULL for what a warm
reset discarded. -/
def raiseAtEntry (s : State) : State :=
  let t := if s.cl.clamped then occur .configClamped 0 s else s
  let u := if s.sc.logLostDue then occur .logLost 0 t else t
  let v := if s.sc.counterFullDue then occur .counterFull 0 u else u
  v.setSc { v.sc with logLostDue := false, counterFullDue := false }

/-- The entry to RUN (R189, Table 11-1): the ALARM of a kept pending set goes before every condition raised at the entry. -/
def enterRun (s : State) : State :=
  let t := startBeacons (enterRunBlocks s)
  let u := if t.acu.pending = 0 then t else announce t
  serve (raiseAtEntry (raiseEchoFails u))

/-- CONTAINER_STATE_DERIVATION (R188), with the entry to RUN that follows it at once (R189). -/
def execContainerStateDerivation (after : Nat) (s : State) : Host.Outcome State Fault Refusal :=
  let t := s.advance after
  .next (if t.atStage .derivation then enterRun (deriveStates t) else t)

end Sys2Proof.Machine
end

