-- ==== Sys2Proof/Machine/Store.lean ====
section
/-! DEFINITION. The meaning of the store command (R61). -/

namespace Sys2Proof.Machine

/-- The write in flight completes (R61): the slot holds the image, the store is free and chooses its next write, and CD places
what it holds. -/
def completeWrite (item : StoreItem) (s : State) : State :=
  let t := s.setSc { s.sc with store := writeSlot s.sc.store item, inFlight := none }
  let u := beginWrite (count .storeWrites 1 t)
  placeHeld u.cd.held u

/-- STORE_WRITE_COMPLETE (R61). -/
def execStoreWriteComplete (after : Nat) (s : State) : Host.Outcome State Fault Refusal :=
  let t := s.advance after
  .next (if t.cl.powered then
    match t.sc.inFlight with
    | some item => completeWrite item t
    | none => t
  else t)

end Sys2Proof.Machine
end

