-- ==== Sys2Proof/Machine/Dispatch.lean ====
section
/-! DEFINITION. The effect of every command on everything but the queue: one arm per row of spec/opcode_table.json. -/

namespace Sys2Proof.Machine

/-- The effect of a command (R183 and the rules each meaning cites). -/
def exec (i : Instr) (s : State) : Host.Outcome State Fault Refusal :=
  match i with
  | .powerOn after => Sys2Proof.Machine.execPowerOn after s
  | .lossOfPower after => Sys2Proof.Machine.execLossOfPower after s
  | .resetNLow after => Sys2Proof.Machine.execResetNLow after s
  | .resetNHigh after => Sys2Proof.Machine.execResetNHigh after s
  | .configurationImageRead after image => Sys2Proof.Machine.execConfigurationImageRead after image s
  | .startingStoreWork after => Sys2Proof.Machine.execStartingStoreWork after s
  | .inputLevelSettled after c level => Sys2Proof.Machine.execInputLevelSettled after c level s
  | .containerStateDerivation after => Sys2Proof.Machine.execContainerStateDerivation after s
  | .drumOpen after c => Sys2Proof.Machine.execDrumOpen after c s
  | .drumClosed after c => Sys2Proof.Machine.execDrumClosed after c s
  | .lockSenseEngaged after c => Sys2Proof.Machine.execLockSenseEngaged after c s
  | .lockSenseReleased after c => Sys2Proof.Machine.execLockSenseReleased after c s
  | .containerAbsent after c => Sys2Proof.Machine.execContainerAbsent after c s
  | .containerPresent after c => Sys2Proof.Machine.execContainerPresent after c s
  | .confirmationTimerExpiry after c => Sys2Proof.Machine.execConfirmationTimerExpiry after c s
  | .drumHeldExpiry after c => Sys2Proof.Machine.execDrumHeldExpiry after c s
  | .liftLimitExpiry after c => Sys2Proof.Machine.execLiftLimitExpiry after c s
  | .holdTimerExpiry after c => Sys2Proof.Machine.execHoldTimerExpiry after c s
  | .cardRead after c card issue readFault => Sys2Proof.Machine.execCardRead after c card issue readFault s
  | .repeatIndication after c => Sys2Proof.Machine.execRepeat after c s
  | .readerMessageDiscarded after c bytes => Sys2Proof.Machine.execReaderMessageDiscarded after c bytes s
  | .indicationSendComplete after c => Sys2Proof.Machine.execIndicationSendComplete after c s
  | .grantRequest after c => Sys2Proof.Machine.execGrantRequest after c s
  | .windowTimerExpiry after c => Sys2Proof.Machine.execWindowTimerExpiry after c s
  | .euPeriodicTimerExpiry after c => Sys2Proof.Machine.execEuPeriodicTimerExpiry after c s
  | .settleTimerExpiry after c => Sys2Proof.Machine.execSettleTimerExpiry after c s
  | .returnTimerExpiry after c => Sys2Proof.Machine.execReturnTimerExpiry after c s
  | .burstEnd after => Sys2Proof.Machine.execBurstEnd after s
  | .blankEnd after above => Sys2Proof.Machine.execBlankEnd after above s
  | .echoRise after => Sys2Proof.Machine.execEchoRise after s
  | .listenEnd after => Sys2Proof.Machine.execListenEnd after s
  | .temperatureRead after value => Sys2Proof.Machine.execTemperatureRead after value s
  | .storeWriteComplete after => Sys2Proof.Machine.execStoreWriteComplete after s
  | .dirPut after f => Sys2Proof.Machine.execDirPut after f s
  | .dirDrop after f => Sys2Proof.Machine.execDirDrop after f s
  | .revokePush after f => Sys2Proof.Machine.execRevokePush after f s
  | .revokePull after f => Sys2Proof.Machine.execRevokePull after f s
  | .revokeGap after f => Sys2Proof.Machine.execRevokeGap after f s
  | .pullHoldoffExpiry after => Sys2Proof.Machine.execPullHoldoffExpiry after s
  | .pullOutstandingTimeout after => Sys2Proof.Machine.execPullOutstandingTimeout after s
  | .timeFrame after f => Sys2Proof.Machine.execTime after f s
  | .beacon after f => Sys2Proof.Machine.execBeacon after f s
  | .rollcall after f => Sys2Proof.Machine.execRollcall after f s
  | .claim after f => Sys2Proof.Machine.execClaim after f s
  | .release after f => Sys2Proof.Machine.execRelease after f s
  | .queryAlarms after f => Sys2Proof.Machine.execQueryAlarms after f s
  | .queryCounters after f => Sys2Proof.Machine.execQueryCounters after f s
  | .queryContainers after f => Sys2Proof.Machine.execQueryContainers after f s
  | .queryNeighbours after f => Sys2Proof.Machine.execQueryNeighbours after f s
  | .queryStatus after f => Sys2Proof.Machine.execQueryStatus after f s
  | .queryDirGet after f => Sys2Proof.Machine.execQueryDirGet after f s
  | .queryLog after f => Sys2Proof.Machine.execQueryLog after f s
  | .queryBadSubject after f => Sys2Proof.Machine.execQueryBadSubject after f s
  | .snapshot after f => Sys2Proof.Machine.execSnapshot after f s
  | .restart after f => Sys2Proof.Machine.execRestart after f s
  | .frameNotDispatched after f => Sys2Proof.Machine.execFrameNotDispatched after f s
  | .lineActivity after signal => Sys2Proof.Machine.execLineActivity after signal s
  | .classGapReached after => Sys2Proof.Machine.execClassGapReached after s
  | .backoffSlotEnd after => Sys2Proof.Machine.execBackoffSlotEnd after s
  | .collision after => Sys2Proof.Machine.execCollision after s
  | .transmissionComplete after => Sys2Proof.Machine.execTransmissionComplete after s
  | .replyDeadlineExpiry after position => Sys2Proof.Machine.execReplyDeadlineExpiry after position s
  | .silenceTimerExpiry after => Sys2Proof.Machine.execSilenceTimerExpiry after s
  | .rollcallSlotTime after => Sys2Proof.Machine.execRollcallSlotTime after s
  | .rollcallWindowClose after => Sys2Proof.Machine.execRollcallWindowClose after s
  | .beaconPeriodicTimerExpiry after => Sys2Proof.Machine.execBeaconPeriodicTimerExpiry after s
  | .beaconHoldoffExpiry after => Sys2Proof.Machine.execBeaconHoldoffExpiry after s
  | .neighbourAgeTick after => Sys2Proof.Machine.execNeighbourAgeTick after s
  | .clockSecond after => Sys2Proof.Machine.execClockSecond after s
  | .hopAgingExpiry after => Sys2Proof.Machine.execHopAgingExpiry after s
  | .reportTimerExpiry after => Sys2Proof.Machine.execReportTimerExpiry after s

end Sys2Proof.Machine
end

