-- ==== Sys2Proof/Safety.lean ====
section
/-! DEFINITION. What counts as a safe state of the GD52: the laws the spec states of the whole part, in the terms the statements
use. Each holds after reset and is meant to be kept by every step. -/

namespace Sys2Proof.Safety

open Sys2Proof.Machine

/-- While RESET_N is held low, and without power, the station phase is STARTING (R183). -/
abbrev PhaseLaw (s : State) : Prop := s.cl.resetLow = true ∨ s.cl.powered = false → s.cl.phase = .starting

/-- A container is under a grant: GRANTED or DEPOSITING. -/
abbrev underGrant (x : Cc) : Prop := x.state = .granted ∨ x.state = .depositing

/-- The lock drive is RELEASE only while the container is GRANTED or DEPOSITING (R3). -/
abbrev LocksHeld (s : State) : Prop := ∀ c : Col, (s.cc.get c).drive = .release → underGrant (s.cc.get c)

/-- The lock drive follows the container's state (R3): RELEASE only under a grant, and in RUN, of a container of the station,
always under a grant. -/
abbrev LocksLaw (s : State) : Prop :=
  LocksHeld s ∧ (s.cl.phase = .run → ∀ c : Col, c.val < s.cl.image.count →
    underGrant (s.cc.get c) → (s.cc.get c).drive = .release)

/-- In RUN a container of the station is under a grant exactly when AU holds an ACTIVE record for it; outside RUN AU holds no
record (R74, R75, R81, R88). -/
abbrev GrantsAgree (s : State) : Prop :=
  (s.cl.phase = .run → ∀ c : Col, c.val < s.cl.image.count →
    (((s.au.get c).grant.any fun g => g.active) = true ↔ underGrant (s.cc.get c))) ∧
  (s.cl.phase ≠ .run → ∀ c : Col, (s.au.get c).grant = none)

/-- No card has two grant records (R74). -/
abbrev GrantsDistinct (s : State) : Prop :=
  ∀ c d : Col, c ≠ d → ∀ g ∈ (s.au.get c).grant, ∀ h ∈ (s.au.get d).grant, g.card ≠ h.card

/-- The directory write queue holds at most 16 items (R59) and the log staging at most 8 records (R60). -/
abbrev StoreQueues (x : Sc) : Prop := x.queue.length ≤ 16 ∧ x.staging.length ≤ 8

/-- Every image that waits to be written, or is being written, has the length of its slot (R57, R59). -/
abbrev ItemsFit (x : Sc) : Prop :=
  (∀ i ∈ x.queue, i.bytes.length = i.slot.size) ∧ ∀ i ∈ x.inFlight, i.bytes.length = i.slot.size

/-- The neighbour table stands in rising address order, so that the addresses are distinct; it holds at most 16 entries, with
addresses in 1..55 and none the own address (R129); outside RUN it is empty (R139). -/
abbrev NeighbourLaw (s : State) : Prop :=
  s.nu.table.length ≤ 16 ∧ s.nu.table.Pairwise (fun m n => m.address < n.address) ∧
  (∀ n ∈ s.nu.table, 1 ≤ n.address ∧ n.address ≤ 55 ∧ n.address ≠ s.cl.image.ownAddress) ∧
  (s.cl.phase ≠ .run → s.nu.table = [])

/-- The transmit queue holds at most 8 frames (R116) in class order (R114), with distinct arrival numbers below the next one, at
most one of them a BEACON and at most one an ALARM (R115). -/
abbrev QueueOrdered (x : Lc) : Prop :=
  x.queue.length ≤ 8 ∧
  x.queue.Pairwise (fun f g => f.cls ≤ g.cls ∧ f.arrival ≠ g.arrival ∧ ¬(f.kind = .beacon ∧ g.kind = .beacon)
    ∧ ¬(f.kind = .alarm ∧ g.kind = .alarm)) ∧
  (∀ f ∈ x.queue, f.arrival < x.arrivals)

/-- Access to the line (R117, R121, Table 6-4): with an empty queue nothing is in access and the phase is IDLE; otherwise the
frame in access is in the queue, it is the head while the phase is GAP, and GAP, BACKOFF are left while a window is open. -/
abbrev AccessLaw (x : Lc) : Prop :=
  (x.queue = [] → x.access = none ∧ x.phase = .idle) ∧
  (x.queue ≠ [] → x.phase ≠ .idle ∧ ∃ f ∈ x.queue, x.access = some f.arrival) ∧
  (x.phase = .gap → x.access = x.queue.head?.map TxFrame.arrival) ∧
  (x.window.isSome = true → x.phase ≠ .gap ∧ x.phase ≠ .backoff)

/-- The directory image: slots rising, below 2048, each card in the bucket it selects, and no card twice (R47). -/
abbrev DirectoryLaw (x : Cd) : Prop :=
  x.image.Pairwise (fun p q => p.1 < q.1 ∧ p.2.entry.card ≠ q.2.entry.card) ∧
  (∀ p ∈ x.image, p.1 < 2048 ∧ p.1 / 8 = p.2.entry.card.toNat % 256 ∧ p.2.usage ≤ 255)

/-- For every directory entry whose card has a record in the revocation list, the entry's status equals the action of the newest
such record (R94). -/
abbrev StatusLaw (s : State) : Prop :=
  ∀ p ∈ s.cd.image, ∀ r ∈ newestRecord p.2.entry.card s.ru, p.2.entry.blocked = r.block

/-- The revocation list holds at most 64 records with consecutive sequences whose last equals the mark (R90). -/
abbrev RevocationLaw (x : Ru) : Prop :=
  x.list.length ≤ 64 ∧ x.list.length ≤ x.mark ∧
  x.list.map RevRecord.seq = (List.range x.list.length).map (fun i => x.mark + 1 - x.list.length + i)

/-- The held records have the indices from oldest to next - 1 and number at most 1024, and next never exceeds its top (R159). -/
abbrev LogLaw (x : Dl) : Prop := x.oldest ≤ x.next ∧ x.next ≤ x.oldest + 1024 ∧ x.next ≤ 4294967295

/-- The bits of the condition positions that have a level: the station's LINE_SILENT and DIR_GAP, and of each container the five
up to UNCLAIMED_LIFT (Table 10-1, 12.1). -/
def levelPositions : BitVec 32 := 0x7DF7DF03

/-- Only level conditions have a live level, and the latch stamp stands exactly while the pending set is not empty (R165,
R166). -/
abbrev AlarmLaw (x : Acu) : Prop := x.levels &&& ~~~levelPositions = 0 ∧ (x.latch.isSome = true ↔ x.pending ≠ 0)

/-- Every counter of a set is within 0..65535 (R169). -/
abbrev CountersBounded (k : Counters) : Prop :=
  (∀ i ∈ [Counter.cardsPresented, .grants, .refusals, .redirects, .framesRxOk, .framesRxBad, .framesTx, .collisions,
    .txAbandoned, .repliesLate, .beaconsMissed, .echoFails, .logLost, .storeWrites, .revocationsApplied, .claimLapsed],
    k.get i ≤ 65535) ∧ ∀ c : Col, k.deposits.get c ≤ 65535

/-- The fill fields of a container: p_m within 0..1000 and E = min(1000, p_m + n_d × inc) (R40); n_d and the echo-fail count
within 0..255 (R41, R34); at most three readings in the history, each within 0..1000 (R33, R35); fewer than four suspects (R37,
R39). -/
abbrev FillLaw (x : Fe) : Prop :=
  x.pm ≤ 1000 ∧ x.e = min 1000 (x.pm + x.nd * x.inc) ∧ x.nd ≤ 255 ∧ x.echoFail ≤ 255 ∧ x.history.length ≤ 3 ∧
  (∀ r ∈ x.history, r ≤ 1000) ∧ x.suspect ≤ 3

/-- Deposits since emptying are at least the deposits since the last acceptance (R20). -/
abbrev DepositsLaw (s : State) : Prop := ∀ c : Col, (s.fe.get c).nd ≤ (s.cc.get c).depositsE

/-- In RUN, of a container of the station, a round id stands exactly in HELD, LIFTED and MISSING (R19), and a waiting round id
only in DEPOSITING (R146), with a pending end reason (R11); outside RUN none waits (R22). -/
abbrev RoundsLaw (s : State) : Prop :=
  (s.cl.phase = .run → ∀ c : Col, c.val < s.cl.image.count →
    ((s.cc.get c).roundId.isSome = true ↔
      (s.cc.get c).state = .held ∨ (s.cc.get c).state = .lifted ∨ (s.cc.get c).state = .missing) ∧
    ((s.cc.get c).waitingRound.isSome = true →
      (s.cc.get c).state = .depositing ∧ (s.cc.get c).pendingEnd.isSome = true)) ∧
  (s.cl.phase ≠ .run → ∀ c : Col, (s.cc.get c).waitingRound = none)

/-- The fields of one container are in their ranges (R185). -/
abbrev ContainerInRange (k : ContainerConfig) : Prop :=
  k.fraction ≤ 7 ∧ 300 ≤ k.dFloor ∧ k.dFloor ≤ 4000 ∧ 200 ≤ k.h ∧ k.h ≤ 3750 ∧ 500 ≤ k.v ∧ k.v ≤ 8000 ∧ 10 ≤ k.vd ∧ k.vd ≤ 250 ∧
  100 ≤ k.tNear ∧ k.tNear ≤ 1000 ∧ 100 ≤ k.tFull ∧ k.tFull ≤ 1000 ∧ 1 ≤ k.cycles ∧ k.cycles ≤ 4 ∧ k.carrier ≤ 3 ∧
  8 ≤ k.burst ∧ k.burst ≤ 32

/-- The configuration image in force has every field in its range (R185), from the reading of a good image to the next start: the
station fields, the caps, the ranks of the preference list and the fields of the containers below the count. -/
abbrev ConfigLaw (x : Cl) : Prop :=
  x.phase = .run ∨ (x.phase = .starting ∧ x.stage ≠ .image) →
    x.image.ownAddress ≤ 55 ∧ 1 ≤ x.image.count ∧ x.image.count ≤ 4 ∧ x.image.districtPrefix ≤ 4095 ∧
    60 ≤ x.image.measInterval ∧ x.image.measInterval ≤ 3600 ∧ 5 ≤ x.image.grantWindow ∧ x.image.grantWindow ≤ 60 ∧
    60 ≤ x.image.holdTime ∧ x.image.holdTime ≤ 900 ∧ 300 ≤ x.image.liftLimit ∧ x.image.liftLimit ≤ 3600 ∧
    30 ≤ x.image.beaconInterval ∧ x.image.beaconInterval ≤ 600 ∧ 1 ≤ x.image.periodDays ∧ x.image.periodDays ≤ 31 ∧
    1 ≤ x.image.reportPeriod ∧ x.image.reportPeriod ≤ 24 ∧ (∀ k : Fin 4, x.image.caps.get k ≤ 255) ∧
    x.image.prefs.length = 8 ∧ (∀ p ∈ x.image.prefs, p.address = 0 ∨ p.rank ≤ 7) ∧
    ∀ c : Col, c.val < x.image.count → ContainerInRange (x.image.containers.get c)

/-- Time hops are within 0..15, and the hop-aging timer stands at 0 while the clock is unset (R134, R137). -/
abbrev TimeLaw (x : Tu) : Prop := x.hops ≤ 15 ∧ (x.hops = 15 → x.aging = .zero)

/-! ## The terms the statements use -/

/-- A frame comes from a gateway (R104). -/
abbrev fromGateway (f : RxFrame) : Prop := 60 ≤ f.src.toNat ∧ f.src.toNat ≤ 62
/-- A frame comes from a vehicle terminal (R104). -/
abbrev fromVehicle (f : RxFrame) : Prop := 56 ≤ f.src.toNat ∧ f.src.toNat ≤ 59
/-- A frame comes from a station (R104). -/
abbrev fromStation (f : RxFrame) : Prop := 1 ≤ f.src.toNat ∧ f.src.toNat ≤ 55
/-- A frame is directed to the station (R104). -/
abbrev isDirected (s : State) (f : RxFrame) : Prop := s.cfg.ownAddress ≠ 0 ∧ f.dest.toNat = s.cfg.ownAddress
/-- A frame is broadcast (R104). -/
abbrev isToAll (f : RxFrame) : Prop := f.dest = 63

/-- The part hears a frame in RUN that passes checks 1 to 3 (R107, R110): `given` bytes of its payload are the row's own. -/
abbrev hears (s : State) (f : RxFrame) (given : Nat) : Prop :=
  s.inRun = true ∧ f.payload.length + given ≤ 96 ∧ (s.cfg.ownAddress ≠ 0 → f.src.toNat ≠ s.cfg.ownAddress)

/-- The state as the owner of a dispatched frame finds it (R105, R111 to R113): the reception has ended, the margin of last frame
is the frame's, the silence timer runs from 0, LINE_SILENT has fallen and FRAMES_RX_OK has counted the frame. -/
def heard (f : RxFrame) (s : State) : State :=
  count .framesRxOk 1 (lower .lineSilent 0
    (s.setLc { s.lc with rx := none, preamble := false, margin := f.margin, silence := .start }))

/-- An indication goes to a reader channel (R68): it is the last indication at once; it is sent, or waits while another is being
sent and replaces any that waits. -/
def withIndication (i : Indication) (x : Au) : Au :=
  if x.sending.isSome then { x with last := i, waiting := some i } else { x with last := i, sending := some i }

end Sys2Proof.Safety
end

