-- ==== Sys2Proof/Certificates/Slice0/Obligations.lean ====
section
/-! DEFINITION. The statements for the provers: what the numbered rules of spec/ say of the commands and of every step. In each,
`d` is the time since the command before and `u` the state once that time has passed (log entry 1). -/

section

open Sys2Proof Sys2Proof.Machine Sys2Proof.Safety

/-! ## The machine -/

/-- One step takes the command at the front of the queue and carries it out with the queue's rest; an empty queue idles (log
entry 11, the model's choice). -/
def Obligations.StepTakesTheFrontCommand : Prop :=
  (∀ (i : Instr) (rest : List Instr) (s : State), s.pending = i :: rest →
    step s = exec i { s with pending := rest }) ∧
  (∀ s : State, s.pending = [] → step s = .next s)

/-- Every command answers a next state and leaves the queue of waiting commands as it was. -/
def Obligations.CommandsLeaveTheQueue : Prop :=
  ∀ (i : Instr) (s : State), ∃ t, exec i s = .next t ∧ t.pending = s.pending

/-- The cold-reset values that R22, R46, R66, R88, R103, R124, R139, R140, R156, R182 and R191 give. -/
def Obligations.ResetHoldsTheColdValues : Prop :=
  (∀ c : Col,
    let x := State.reset.cc.get c
    let f := State.reset.fe.get c
    let e := State.reset.eu.cols.get c
    let a := State.reset.au.get c
    x.drive = .engage ∧ x.confirm = ⟨0, false⟩ ∧ x.drumTimer = ⟨0, false⟩ ∧ x.opening = ⟨0, false⟩ ∧ x.hold = ⟨0, false⟩ ∧
    x.pendingEnd = none ∧ x.waitingRound = none ∧ x.roundId = none ∧ x.lastEmptied = none ∧ x.lift.us = 0 ∧
    x.fillBefore = 0 ∧ x.settleFailures = 0 ∧ x.depositsE = 0 ∧
    f.pm = 0 ∧ f.nd = 0 ∧ f.nAtStart = 0 ∧ f.history = [] ∧ f.suspect = 0 ∧ f.e = 0 ∧ f.cls = .openClass ∧
    f.unknown = true ∧ f.emptied = false ∧ f.echoFail = 0 ∧
    e.request = false ∧ e.periodic = ⟨0, false⟩ ∧ e.settle.running = false ∧ e.ret.running = false ∧
    a.grant = none ∧ a.last.code = .outOfService ∧ a.waiting = none) ∧
  State.reset.eu.inFlight = none ∧ State.reset.eu.temperature = 15 ∧
  State.reset.sc.queue = [] ∧ State.reset.sc.staging = [] ∧ State.reset.sc.inFlight = none ∧
  State.reset.ru.wanted = none ∧ State.reset.ru.outstanding = none ∧ State.reset.ru.holdoff.us = 10000000 ∧
  State.reset.ru.gapMark = none ∧
  State.reset.lc.queue = [] ∧ State.reset.lc.access = none ∧ State.reset.lc.phase = .idle ∧ State.reset.lc.window = none ∧
  State.reset.lc.rx = none ∧ State.reset.lc.margin = 7 ∧ State.reset.lc.silence.us = 0 ∧ State.reset.lc.tag = 0 ∧
  State.reset.nu.table = [] ∧ State.reset.nu.seq = 0 ∧ State.reset.nu.holdoff.us = 5000000 ∧ State.reset.nu.early = false ∧
  State.reset.tu.clock = 0 ∧ State.reset.tu.hops = 15 ∧ State.reset.tu.period = 0 ∧ State.reset.tu.aging.running = false ∧
  State.reset.rr = none ∧
  State.reset.acu.levels = 0 ∧ State.reset.acu.pending = 0 ∧ State.reset.acu.latch = none ∧
  State.reset.acu.live = Counters.zero ∧ State.reset.acu.copies = Counters.zero ∧
  State.reset.acu.stampClock = 0 ∧ State.reset.acu.stampHops = 15 ∧ State.reset.acu.report.us = 0 ∧
  State.reset.restartPromised = false ∧
  State.reset.cl.phase = .starting ∧ State.reset.cl.startKind = .cold ∧ State.reset.cl.clamped = false ∧
  State.reset.cl.safe = false

/-- The part after reset meets every law of Safety.lean that the statements below say each step keeps. -/
def Obligations.ResetMeetsTheLaws : Prop :=
  let s := State.reset
  PhaseLaw s ∧ LocksLaw s ∧ GrantsAgree s ∧ GrantsDistinct s ∧ RoundsLaw s ∧ DepositsLaw s ∧
  (∀ c : Col, FillLaw (s.fe.get c)) ∧ DirectoryLaw s.cd ∧ StatusLaw s ∧ RevocationLaw s.ru ∧ LogLaw s.dl ∧
  StoreQueues s.sc ∧ ItemsFit s.sc ∧ Memory.wf s.sc.store = true ∧ QueueOrdered s.lc ∧ AccessLaw s.lc ∧ NeighbourLaw s ∧
  AlarmLaw s.acu ∧ CountersBounded s.acu.live ∧ CountersBounded s.acu.copies ∧ ConfigLaw s.cl ∧ TimeLaw s.tu

/-- Time passes for the timers alone (00 section 4.4; log entry 1, the model's choice that commands carry the time): outside RUN
nothing changes; in RUN a running timer counts on to its limit and a stopped one stands; and two passages add up. -/
def Obligations.TimePassesAndAdds : Prop :=
  (∀ (s : State) (d : Nat), s.inRun = false → s.advance d = s) ∧
  (∀ (s : State) (d : Nat), s.inRun = true → ∀ c : Col,
    let u := s.advance d
    let on := fun (limit : Nat) (t : Timer) => if t.running then Timer.mk (min limit (t.us + d)) true else t
    let x := s.cc.get c
    let e := s.eu.cols.get c
    u = { s with cc := u.cc, eu := u.eu, au := u.au, ru := u.ru, lc := u.lc, nu := u.nu, tu := u.tu, acu := u.acu } ∧
    u.cc.get c = { x with
      confirm := on 2000000 x.confirm
      drumTimer := on 90000000 x.drumTimer
      opening := if x.opening.running then ⟨x.opening.us + d, true⟩ else x.opening
      hold := on (s.cfg.holdTime * 1000000) x.hold
      lift := on 65535000000 x.lift } ∧
    u.eu = { s.eu with
      cols := u.eu.cols
      inFlight := s.eu.inFlight.map fun m => { m with elapsed := min 30000 (m.elapsed + d) } } ∧
    u.eu.cols.get c = { e with
      periodic := on (s.cfg.measInterval * 1000000) e.periodic
      settle := on 20000000 e.settle
      ret := on 30000000 e.ret } ∧
    u.au.get c = { s.au.get c with
      grant := (s.au.get c).grant.map fun g => { g with window := on (g.windowLength * 1000000) g.window } } ∧
    u.ru = { s.ru with
      holdoff := on 10000000 s.ru.holdoff
      outstanding := s.ru.outstanding.map fun o => { o with timer := on 2000000 o.timer } } ∧
    u.lc = { s.lc with
      idle := u.lc.idle
      ownSlot := s.lc.ownSlot - d * 24
      window := s.lc.window.map fun w => { w with elapsed := w.elapsed + d * 24 }
      silence := on 30000000 s.lc.silence
      queue := s.lc.queue.map fun f => { f with deadline := f.deadline.map fun n => n + d * 24 } } ∧
    (s.lc.busy = false → s.lc.phase ≠ .sending → s.lc.ownSlot = 0 → u.lc.idle = s.lc.idle + d * 24) ∧
    u.nu = { s.nu with periodicLeft := s.nu.periodicLeft - d, holdoff := on 5000000 s.nu.holdoff } ∧
    u.tu = { s.tu with aging := on 21600000000 s.tu.aging } ∧
    u.acu = { s.acu with report := u.acu.report } ∧
    (s.cfg.auto = true → u.acu.report = on (s.cfg.reportPeriod * 3600000000) s.acu.report)) ∧
  (∀ (s : State) (a b : Nat), (s.advance a).advance b = s.advance (a + b))

/-! ## What every step keeps -/

/-- Every step keeps the law of the lock drives (R3). Every step keeps the laws of the grants: in RUN a container is under a grant
exactly when AU holds an ACTIVE record for it, there is none outside RUN, and no card has two (R74, R81, R88). -/
def Obligations.StepKeepsLocksAndGrants : Prop :=
  (∀ s t : State, PhaseLaw s ∧ LocksLaw s → step s = .next t → PhaseLaw t ∧ LocksLaw t) ∧
  (∀ s t : State, PhaseLaw s ∧ GrantsAgree s ∧ GrantsDistinct s → step s = .next t →
    PhaseLaw t ∧ GrantsAgree t ∧ GrantsDistinct t)

/-- Every step keeps the law of the round ids (R19, R146). -/
def Obligations.StepKeepsRounds : Prop :=
  ∀ s t : State, PhaseLaw s ∧ RoundsLaw s → step s = .next t → PhaseLaw t ∧ RoundsLaw t

/-- Every step keeps the laws of the fill fields (R40, R41) and D_e at least n_d (R20). -/
def Obligations.StepKeepsFillAndDeposits : Prop :=
  ∀ s t : State, (∀ c : Col, FillLaw (s.fe.get c)) ∧ DepositsLaw s → step s = .next t →
    (∀ c : Col, FillLaw (t.fe.get c)) ∧ DepositsLaw t

/-- Every step keeps the directory well formed (R47) and each entry's status that of its newest revocation record (R94). Every step
keeps the revocation list consecutive, at most 64 long and ending at the mark (R90). -/
def Obligations.StepKeepsDirectoryAndRevocations : Prop :=
  (∀ s t : State, DirectoryLaw s.cd ∧ StatusLaw s → step s = .next t → DirectoryLaw t.cd ∧ StatusLaw t) ∧
  (∀ s t : State, RevocationLaw s.ru → step s = .next t → RevocationLaw t.ru)

/-- Every step keeps the log's range (R159), the bounds of the write queue and the staging (R59, R60), the length of every image
that waits to be written (R57), and the store in its canonical form. -/
def Obligations.StepKeepsLogAndStore : Prop :=
  ∀ s t : State, LogLaw s.dl ∧ StoreQueues s.sc ∧ ItemsFit s.sc ∧ Memory.wf s.sc.store = true → step s = .next t →
    LogLaw t.dl ∧ StoreQueues t.sc ∧ ItemsFit t.sc ∧ Memory.wf t.sc.store = true

/-- Every step keeps the transmit queue in class order with at most 8 frames, one BEACON and one ALARM (R114 to R116), and the
access to the line as Table 6-4 has it (R117, R121). -/
def Obligations.StepKeepsTransmitQueue : Prop :=
  ∀ s t : State, QueueOrdered s.lc ∧ AccessLaw s.lc → step s = .next t → QueueOrdered t.lc ∧ AccessLaw t.lc

/-- Every step keeps the neighbour table: at most 16 entries with distinct addresses in 1..55, none the own address (R129), and
none outside RUN (R139). -/
def Obligations.StepKeepsNeighbourTable : Prop :=
  ∀ s t : State, PhaseLaw s ∧ NeighbourLaw s → step s = .next t → PhaseLaw t ∧ NeighbourLaw t

/-- Every step keeps the latch stamp standing exactly while the pending set is not empty, no live level at an event-only
position (R165, R166), and every counter and report copy within 0..65535 (R169). -/
def Obligations.StepKeepsAlarmsAndCounters : Prop :=
  ∀ s t : State, AlarmLaw s.acu ∧ CountersBounded s.acu.live ∧ CountersBounded s.acu.copies → step s = .next t →
    AlarmLaw t.acu ∧ CountersBounded t.acu.live ∧ CountersBounded t.acu.copies

/-- Every step keeps the image in force within its ranges (R185), the station fields, the caps, the ranks of the preference list
and the fields of the containers below the count, and the hops within 0..15 (R134, R137). A position of address 0 has no rank to
keep; one that names no entry has (log entry 58, the model's reading). -/
def Obligations.StepKeepsConfigurationAndTime : Prop :=
  ∀ s t : State, ConfigLaw s.cl ∧ TimeLaw s.tu → step s = .next t → ConfigLaw t.cl ∧ TimeLaw t.tu

/-! ## The shared operations -/

/-- What an edge of a condition does (R165 to R167, R170): outside RUN nothing; an edge that is masked, that is a fall in mode RISE,
or whose flag is pending changes the level alone; any other sets the flag, stamps an empty set with the clock, and offers one ALARM,
met when one is queued. An addition to a live counter saturates at 65535 (R169), and one that brings it there from below is an
occurrence of COUNTER_FULL (R170). -/
def Obligations.EdgesAnnounceAndCountersSaturate : Prop :=
  (∀ (k : Cond) (c : Col) (s : State), s.inRun = false →
    raise k c s = s ∧ lower k c s = s ∧ occur k c s = s) ∧
  (∀ (k : Cond) (c : Col) (s : State), s.inRun = true →
    let p := k.position c
    let high := s.acu.levels.getLsbD p
    (high = true → raise k c s = s) ∧ (high = false → lower k c s = s) ∧
    (high = false → raise k c s = takeEdge k c true { s with acu := { s.acu with levels := s.acu.levels ||| 1#32 <<< p } }) ∧
    (high = true →
      lower k c s = takeEdge k c false { s with acu := { s.acu with levels := s.acu.levels &&& ~~~(1#32 <<< p) } }) ∧
    occur k c s = takeEdge k c true s) ∧
  (∀ (k : Cond) (c : Col) (rise : Bool) (s : State), s.inRun = true →
    let p := k.position c
    let newly := !s.cfg.masked.getLsbD k.code && (rise || s.cfg.both.getLsbD k.code) && !s.acu.pending.getLsbD p
    let t := takeEdge k c rise s
    (newly = false → t = s) ∧
    (newly = true →
      t = { s with
        acu := { s.acu with pending := t.acu.pending, latch := t.acu.latch, live := t.acu.live }
        lc := t.lc } ∧
      s.acu.pending ||| 1#32 <<< p ||| t.acu.pending = t.acu.pending ∧
      t.acu.latch = (if s.acu.pending = 0 then some s.tu.clock else s.acu.latch) ∧
      (s.cfg.ownAddress = 0 ∨ (∃ g ∈ s.lc.queue, g.kind = .alarm) →
        t.lc = s.lc ∧ t.acu.live = s.acu.live ∧ t.acu.pending = s.acu.pending ||| 1#32 <<< p) ∧
      (s.cfg.ownAddress ≠ 0 → (∀ g ∈ s.lc.queue, g.kind ≠ .alarm) → s.lc.queue.length < 8 →
        t.acu.live = s.acu.live ∧ t.acu.pending = s.acu.pending ||| 1#32 <<< p ∧
        t.lc.queue = s.lc.queue.takeWhile (fun g => g.cls ≤ 1) ++
          { kind := .alarm, dest := 63, tag := s.lc.tag, payload := [], cls := 1, arrival := s.lc.arrivals, attempts := 0,
            deadline := none, departure := false, backoff := none } :: s.lc.queue.dropWhile (fun g => g.cls ≤ 1)))) ∧
  (∀ (k : Counter) (n : Nat) (s : State),
    let t := count k n s
    let before := s.acu.live.get k
    t.acu.live.get k = min 65535 (before + n) ∧
    (∀ j : Counter, j ≠ k → j ≠ .txAbandoned → t.acu.live.get j = s.acu.live.get j) ∧
    t.acu.levels = s.acu.levels ∧ t.acu.copies = s.acu.copies ∧
    t = { s with acu := t.acu, lc := t.lc } ∧
    (65535 ≤ before ∨ before + n < 65535 → t = { s with acu := { s.acu with live := t.acu.live } }) ∧
    (before < 65535 → 65535 ≤ before + n → s.inRun = true → s.cfg.masked.getLsbD 5 = false →
      t.acu.pending.getLsbD 5 = true))

/-- What the transmit queue does with a frame offered (R104, R106, R114, R116, R117): refused at own address 0; placed behind the
frames of its class, with the tag counter's TAG unless it is a reply, and the head takes access; with 8 frames queued, a frame of
class 0 or 1 displaces the oldest class-2 frame that is not being sent, the head taking access when that frame had it or was in GAP
(6.10), and any other offer is dropped. Both are counted in TX_ABANDONED, and the one that brings it to 65535 is an occurrence of
COUNTER_FULL (R169, R170). That the head which takes access in an open roll-call window is SUSPENDED (R121, Table 6-4) is for an
empty queue the model's reading (log entry 22); the COUNTER_FULL after the placing is too (log entry 41). -/
def Obligations.OffersJoinByClass : Prop :=
  ∀ (f : TxFrame) (s : State),
    let t := offer f s
    let g : TxFrame := { f with
      arrival := s.lc.arrivals
      tag := if f.deadline.isSome then f.tag else s.lc.tag }
    let waits := fun (h : TxFrame) => h.cls = 2 ∧ ¬(s.lc.phase = .sending ∧ s.lc.access = some h.arrival)
    let joined := fun (q : List TxFrame) => q.takeWhile (fun h => h.cls ≤ f.cls) ++ g :: q.dropWhile (fun h => h.cls ≤ f.cls)
    let tagAfter := if f.deadline.isSome then s.lc.tag else s.lc.tag + 1
    let counted := { s.acu with live := { s.acu.live with txAbandoned := min 65535 (s.acu.live.txAbandoned + 1) } }
    let atTop := fun (v : State) => if s.acu.live.txAbandoned = 65534 then occur .counterFull 0 v else v
    (s.cfg.ownAddress = 0 → t = s) ∧
    (s.cfg.ownAddress ≠ 0 → s.lc.queue.length < 8 →
      t = { s with lc := { s.lc with
        queue := joined s.lc.queue
        arrivals := s.lc.arrivals + 1
        tag := tagAfter
        access := if s.lc.phase = .idle ∨ s.lc.phase = .gap then (joined s.lc.queue).head?.map fun h => h.arrival
                  else s.lc.access
        phase := if s.lc.phase = .idle ∨ s.lc.phase = .gap then (if s.lc.window.isSome then .suspended else .gap)
                 else s.lc.phase } }) ∧
    (s.cfg.ownAddress ≠ 0 → 8 ≤ s.lc.queue.length → f.cls < 2 → (∃ h ∈ s.lc.queue, waits h) →
      ∃ old ∈ s.lc.queue, waits old ∧ (∀ h ∈ s.lc.queue, waits h → old.arrival ≤ h.arrival) ∧
        let queue := joined (s.lc.queue.filter fun h => h.arrival ≠ old.arrival)
        let kept := s.lc.phase = .sending ∨
          (s.lc.access ≠ some old.arrival ∧ (s.lc.phase = .backoff ∨ s.lc.phase = .suspended))
        t = atTop { s with
          acu := counted
          lc := { s.lc with
            queue := queue, arrivals := s.lc.arrivals + 1, tag := tagAfter
            access := if kept then s.lc.access else queue.head?.map fun h => h.arrival
            phase := if kept then s.lc.phase else if s.lc.window.isSome then .suspended else .gap } }) ∧
    (s.cfg.ownAddress ≠ 0 → 8 ≤ s.lc.queue.length → 2 ≤ f.cls ∨ (∀ h ∈ s.lc.queue, ¬waits h) →
      t = atTop { s with acu := counted })

/-- What becomes of the items of a request (R59, R61): placed at the end of the write queue, a free store at once beginning the
first; and of a log record that DL forms (R60, R61, R159): taken with the next index and staged behind the others, a free
store at once beginning to write the oldest; or, with 8 staged or no index left, lost, counted and raised. -/
def Obligations.ItemsAndRecordsWaitForTheStore : Prop :=
  (∀ (i : StoreItem) (rest : List StoreItem) (s : State),
    (s.sc.inFlight.isSome = true →
      placeItems (i :: rest) s = { s with sc := { s.sc with queue := s.sc.queue ++ i :: rest } }) ∧
    (s.sc.inFlight = none → s.sc.staging = [] → s.sc.queue = [] →
      placeItems (i :: rest) s = { s with sc := { s.sc with queue := rest, inFlight := some i } })) ∧
  ∀ (c : Col) (e : Nat) (body : LogBody) (s : State),
    let t := offerRecord c e body s
    let r : LogRecord := ⟨s.dl.next, s.tu.clock, s.tu.hops, c, e, body⟩
    (s.sc.staging.length < 8 → s.dl.next < 4294967295 →
      t = { s with sc := t.sc, dl := t.dl } ∧
      t.dl.next = s.dl.next + 1 ∧
      t.dl.oldest = (if s.dl.oldest + 1024 < s.dl.next + 1 then s.dl.oldest + 1 else s.dl.oldest) ∧
      (s.sc.inFlight.isSome = true → t.sc = { s.sc with staging := s.sc.staging ++ [r] }) ∧
      (s.sc.inFlight = none → s.sc.staging = [] →
        t.sc = { s.sc with inFlight := some ⟨.log (r.index % 1024), r.image⟩ })) ∧
    (8 ≤ s.sc.staging.length ∨ 4294967295 ≤ s.dl.next →
      t = { s with acu := t.acu, lc := t.lc } ∧ t.acu.live.logLost = min 65535 (s.acu.live.logLost + 1) ∧
      (s.inRun = true → s.cfg.masked.getLsbD 4 = false → t.acu.pending.getLsbD 4 = true))

/-! ## Power, RESET_N and the start -/

/-- POWER_ON (R183): an unpowered part starts cold with the store as it stands, held at the beginning while RESET_N is low; a
powered one loses power and gets it back (log entry 3, the model's choice). LOSS_OF_POWER (R63): the store keeps every byte but
those of a slot being written, whose every bit is the old or the new one (a free value chooses, log entry 9); all else is lost. -/
def Obligations.PowerStartsAndStopsThePart : Prop :=
  (∀ (s : State) (d : Nat), s.cl.powered = false →
    exec (.powerOn d) s = .next { State.reset with
      cl := { Cl.cold with resetLow := s.cl.resetLow }
      sc := { Sc.cold with store := s.sc.store, inFlight := s.sc.inFlight }
      au := if s.cl.resetLow then Quad.all .afterReset else Quad.all .starting
      freeIndex := s.freeIndex
      pending := s.pending }) ∧
  (∀ (s : State) (d : Nat), s.cl.powered = true →
    ∃ v, exec (.lossOfPower d) s = .next v ∧ exec (.powerOn d) s = exec (.powerOn 0) v) ∧
  (∀ (s : State) (d : Nat), s.cl.powered = true → Memory.wf s.sc.store = true → ItemsFit s.sc →
    ∃ t, exec (.lossOfPower d) s = .next t ∧
      t = { State.reset with
        cl := { Cl.cold with powered := false, resetLow := s.cl.resetLow }
        sc := { Sc.cold with store := t.sc.store }
        au := Quad.all .afterReset
        freeIndex := t.freeIndex
        pending := s.pending } ∧
      (s.sc.inFlight = none → t.sc.store = s.sc.store) ∧
      (∀ i ∈ s.sc.inFlight,
        (∀ a : Nat, a < i.slot.address ∨ i.slot.address + i.slot.size ≤ a →
          Memory.read t.sc.store a = Memory.read s.sc.store a) ∧
        (∀ j < i.slot.size, ∀ b < 8,
          (Memory.read t.sc.store (i.slot.address + j)).getLsbD b =
              (Memory.read s.sc.store (i.slot.address + j)).getLsbD b ∨
          (Memory.read t.sc.store (i.slot.address + j)).getLsbD b = (i.bytes.getD j 0).getLsbD b)))

/-- RESET_N_LOW and RESET_N_HIGH (R183): after RUN has been entered the start is warm, and each block takes its warm-reset values
(R22, R46, R64, R66, R88, R103, R124, R139, R140, R182); before that it is cold. The work of STARTING begins when the input returns
high: the clamped and safe flags clear and OUT_OF_SERVICE goes to every reader (R68). These clauses are the model's choices: a
RESET_N level that the input has is no change, and without power the level alone is kept (log entry 3); the container state stays
until the derivation (5); the settled marks clear and the levels stay (16); a send to a reader stops (17); a write in flight at a
cold reset completes (42); until the start sets them, the arbiter pointer and RU's list, base and mark stay, and DL's indices and
NU's periodic timer are 0 (49 to 52), and the stored class (62), the image in force and FE's derived fields, E and class (65) stay;
the idle time of the line is 0 (68); the cold values that the spec leaves open are those of log entries 4 to 7, 50 to 52 and 68. -/
def Obligations.ResetsTakeTheWarmValues : Prop :=
  (∀ (s : State) (d : Nat), s.cl.powered = true → s.cl.resetLow = false → s.cl.startKind = .warm →
    let u := s.advance d
    exec (.resetNLow d) s = .next { u with
      cl := { u.cl with phase := .starting, stage := .image, resetLow := true }
      cc := Quad.ofFn fun c => { u.cc.get c with
        drive := .engage, confirm := ⟨0, false⟩, drumTimer := ⟨0, false⟩, opening := ⟨0, false⟩, hold := ⟨0, false⟩
        lift := ⟨0, false⟩, pendingEnd := none, waitingRound := none, settleFailures := 0
        drumSettled := false, senseSettled := false, presentSettled := false }
      eu := { u.eu with
        cols := Quad.ofFn fun c => { u.eu.cols.get c with
          request := false, periodic := ⟨0, false⟩, settle := ⟨0, false⟩, ret := ⟨0, false⟩ }
        inFlight := none }
      fe := Quad.ofFn fun c => { u.fe.get c with nAtStart := 0 }
      cd := { u.cd with held := [] }
      sc := { u.sc with
        queue := [], staging := []
        logLostDue := u.sc.logLostDue || !u.sc.staging.isEmpty
        counterFullDue := u.sc.counterFullDue ||
          (decide (u.acu.live.logLost < 65535) && decide (65535 ≤ u.acu.live.logLost + u.sc.staging.length)) }
      au := Quad.all { grant := none, last := .plain .outOfService, waiting := none, sending := none }
      ru := { u.ru with wanted := none, outstanding := none, holdoff := ⟨10000000, false⟩, gapMark := none }
      lc := .afterReset
      nu := { table := [], seq := u.nu.seq, periodicLeft := 0, holdoff := ⟨5000000, false⟩, early := false }
      tu := { u.tu with aging := ⟨0, false⟩ }
      rr := none
      dl := ⟨0, 0⟩
      acu := { u.acu with
        levels := 0, report := ⟨0, false⟩
        live := { u.acu.live with logLost := min 65535 (u.acu.live.logLost + u.sc.staging.length) } }
      restartPromised := false }) ∧
  (∀ (s : State) (d : Nat), s.cl.powered = true → s.cl.resetLow = false → s.cl.startKind = .cold →
    let u := s.advance d
    exec (.resetNLow d) s = .next { State.reset with
      cl := { Cl.cold with resetLow := true }
      sc := { Sc.cold with store := u.sc.store, inFlight := u.sc.inFlight }
      au := Quad.all { grant := none, last := .plain .outOfService, waiting := none, sending := none }
      freeIndex := s.freeIndex
      pending := s.pending }) ∧
  (∀ (s : State) (d : Nat), s.cl.powered = false → s.cl.resetLow = false →
    exec (.resetNLow d) s = .next { s with cl := { s.cl with resetLow := true } }) ∧
  (∀ (s : State) (d : Nat), s.cl.resetLow = true →
    let u := s.advance d
    exec (.resetNLow d) s = .next u ∧
    exec (.resetNHigh d) s = .next
      (if s.cl.powered then
        { u with
          cl := { u.cl with resetLow := false, phase := .starting, stage := .image, clamped := false, safe := false }
          au := Quad.ofFn fun c => withIndication (.plain .outOfService) (u.au.get c) }
      else { u with cl := { u.cl with resetLow := false } })) ∧
  (∀ (s : State) (d : Nat), s.cl.resetLow = false → exec (.resetNHigh d) s = .next (s.advance d))

/-- CONFIGURATION_IMAGE_READ of a good image (R184, R185, R31, R46, R190): 192 bytes with a right CRC-16, read when no write is in
flight. Each field is its stored one, the default for a stored 0, or the nearer end of its range; the clamped flag is set exactly
when a value was out of its range or FE's derived one differs; FE derives H, T_near and inc and recomputes E and the class;
containers at or above the count take their cold-reset values. CONFIGURATION_IMAGE_READ of a bad image (R184, R186): the station
enters SAFE, with no field of the image in force and the store untouched. These clauses are the model's choices: fewer than 192
bytes are an image that did not answer, and bytes beyond them are not read (log entry 46); the report copies of unused containers
stay (39); an address of the preference list is not clamped (37), and the rank of every position with an address is (58); in SAFE the
round ids go (25), RU's base is 0 (64), the stored class stays (62), what FE's fields hold after a warm reset
stays (65, R186), and the COUNTER_FULL mark goes while the
LOG_LOST mark stays (28). -/
def Obligations.ImageReadsDecideTheStart : Prop :=
  (∀ (s : State) (d : Nat) (b : List Byte), s.atStage .image = true → s.sc.inFlight = none → 192 ≤ b.length →
    (crc16 (b.take 190)).toNat = fieldAt b 190 2 →
    let u := s.advance d
    let n := fun (o k : Nat) => fieldAt b o k
    let range := fun (lo hi x : Nat) => max lo (min hi x)
    let given := fun (dflt lo hi x : Nat) => if x = 0 then dflt else max lo (min hi x)
    let out := fun (lo hi x : Nat) => x < lo ∨ hi < x
    let outGiven := fun (lo hi x : Nat) => x ≠ 0 ∧ (x < lo ∨ hi < x)
    let count := range 1 4 (n 1 1)
    let at' := fun (c : Col) (o : Nat) => 52 + 15 * c.val + o
    ∃ t, exec (.configurationImageRead d b) s = .next t ∧
      t = { u with cl := t.cl, cc := t.cc, eu := t.eu, fe := t.fe, acu := t.acu } ∧
      t.cl = { u.cl with image := t.cl.image, clamped := t.cl.clamped, stage := .storeWork } ∧
      t.cl.image = { t.cl.image with
        ownAddress := range 0 55 (n 0 1), count := count, districtPrefix := range 0 4095 (n 2 2)
        measInterval := given 600 60 3600 (n 4 2), grantWindow := given 20 5 60 (n 6 1)
        holdTime := given 240 60 900 (n 7 2), liftLimit := given 900 300 3600 (n 9 2)
        beaconInterval := given 60 30 600 (n 11 2), periodDays := range 1 31 (n 13 1), auto := decide (1 ≤ n 14 1)
        reportPeriod := range 1 24 (n 15 1), openRedirect := (byteAt b 16).getLsbD 0, metered := byteAt b 17 } ∧
      (∀ k : Fin 4, t.cl.image.caps.get k = n (18 + k.val) 1) ∧
      t.cl.image.prefs = (List.range 8).map (fun i =>
        ⟨n (22 + 2 * i) 1, if n (22 + 2 * i) 1 = 0 then n (23 + 2 * i) 1 else range 0 7 (n (23 + 2 * i) 1)⟩) ∧
      (∀ i < 14, t.cl.image.masked.getLsbD i = (byteAt b (38 + i)).getLsbD 0 ∧
        t.cl.image.both.getLsbD i = (byteAt b (38 + i)).getLsbD 1) ∧
      (∀ c : Col, c.val < count → t.cl.image.containers.get c =
        { fraction := range 0 7 (n (at' c 0) 1), dFloor := range 300 4000 (n (at' c 1) 2)
          h := range 200 3750 (n (at' c 3) 2), v := range 500 8000 (n (at' c 5) 2), vd := range 10 250 (n (at' c 7) 1)
          tNear := range 100 1000 (n (at' c 8) 2), tFull := range 100 1000 (n (at' c 10) 2)
          cycles := range 1 4 (n (at' c 12) 1), carrier := range 0 3 (n (at' c 13) 1)
          burst := range 8 32 (n (at' c 14) 1) }) ∧
      (t.cl.clamped = true ↔
        out 0 55 (n 0 1) ∨ out 1 4 (n 1 1) ∨ out 0 4095 (n 2 2) ∨ outGiven 60 3600 (n 4 2) ∨ outGiven 5 60 (n 6 1) ∨
        outGiven 60 900 (n 7 2) ∨ outGiven 300 3600 (n 9 2) ∨ outGiven 30 600 (n 11 2) ∨ out 1 31 (n 13 1) ∨
        out 0 1 (n 14 1) ∨ out 1 24 (n 15 1) ∨
        (∃ i ∈ List.range 8, n (22 + 2 * i) 1 ≠ 0 ∧ out 0 7 (n (23 + 2 * i) 1)) ∨
        (∃ c : Col, c.val < count ∧
          (out 0 7 (n (at' c 0) 1) ∨ out 300 4000 (n (at' c 1) 2) ∨ out 200 3750 (n (at' c 3) 2) ∨
           out 500 8000 (n (at' c 5) 2) ∨ out 10 250 (n (at' c 7) 1) ∨ out 100 1000 (n (at' c 8) 2) ∨
           out 100 1000 (n (at' c 10) 2) ∨ out 1 4 (n (at' c 12) 1) ∨ out 0 3 (n (at' c 13) 1) ∨
           out 8 32 (n (at' c 14) 1) ∨
           (t.fe.get c).h ≠ (t.cl.image.containers.get c).h ∨
           (t.fe.get c).tNear ≠ (t.cl.image.containers.get c).tNear))) ∧
      t.eu = { u.eu with cols := t.eu.cols, pointer := count - 1 } ∧
      t.acu = { u.acu with live := { u.acu.live with deposits := t.acu.live.deposits } } ∧
      (∀ c : Col,
        let k := t.cl.image.containers.get c
        let x := u.fe.get c
        let inc := max 1 (min 500 ((k.vd * 1000 + k.v - 1) / k.v))
        let e := min 1000 (x.pm + x.nd * inc)
        let near := min k.tNear (k.tFull - 50)
        t.cc.get c = (if c.val < count then u.cc.get c else .cold) ∧
        t.eu.cols.get c = (if c.val < count then u.eu.cols.get c else .cold) ∧
        t.acu.live.deposits.get c = (if c.val < count then u.acu.live.deposits.get c else 0) ∧
        t.fe.get c = (if c.val < count then
          { x with inc := inc, h := min k.h (k.dFloor - 250), tNear := near, e := e, cls := nextClass x.cls e near k.tFull }
          else .cold))) ∧
  (∀ (s : State) (d : Nat) (b : List Byte), s.atStage .image = true → s.sc.inFlight = none →
    b.length < 192 ∨ (crc16 (b.take 190)).toNat ≠ fieldAt b 190 2 →
    let u := s.advance d
    exec (.configurationImageRead d b) s = .next { u with
      cl := { u.cl with phase := .safe, safe := true, clamped := false, image := .blank }
      cc := Quad.ofFn fun c => { u.cc.get c with state := .fault, drive := .engage, roundId := none }
      cd := ⟨[], []⟩
      sc := { u.sc with counterFullDue := false }
      ru := { u.ru with list := [], base := 0, mark := 0 }
      dl := ⟨0, 0⟩
      acu := .cold })

/-- STARTING_STORE_WORK (R187): the directory image is built from the slots that hold a card in its bucket for the first time
(R65), each entry with its stored status unless the rebuilt revocation list names the card (R102), and with the usage it kept in
the same slot (R66); the list is the run below the highest stored sequence above the base (R101); with no record in the log
oldest and next are 0, else next is H + 1 for the highest index H that takes part, and the log holds the run of indices from H
downward, H included, as far as each next lower one is found, 1024 at most (R163); that next is never set beyond 4294967295, which
cuts it for H = 4294967295 alone (log entry 24), and that a log slot with an undefined end reason or cause reads as empty (log entry
56) are the model's readings. The writes of the load (an
empty image for each slot whose entry was not taken) and then those of the reconciliation (each entry whose status differs from its
slot's) are placed in slot order as far as the write queue has room, a free store at once beginning its next write, and CD holds
the others (R61, R65, R102). -/
def Obligations.StoreWorkRebuildsTheState : Prop :=
  ∀ (s : State) (d : Nat), s.atStage .storeWork = true → s.sc.inFlight = none → DirectoryLaw s.cd →
    let u := s.advance d
    let slotOf := fun (i : Nat) => parseDirEntry (readSlot u.sc.store (.dir i))
    let own := fun (i : Nat) => (slotOf i).filter fun e => e.card.toNat % 256 = i / 8
    let base := parseBase (readSlot u.sc.store (.rev 64))
    let revOf := fun (i : Nat) =>
      (parseRevRecord (readSlot u.sc.store (.rev i))).filter fun r => r.seq % 64 = i ∧ base < r.seq
    let logOf := fun (i : Nat) => (parseLogIndex (readSlot u.sc.store (.log i))).filter fun n => n % 1024 = i
    ∃ t, exec (.startingStoreWork d) s = .next t ∧
      t = { u with cl := { u.cl with stage := .derivation }, cd := t.cd, sc := t.sc, ru := t.ru, dl := t.dl } ∧
      (let unused := (List.range 2048).filter fun i => (slotOf i).isSome && (Sparse.get i t.cd.image).isNone
       let differing := (List.range 2048).filter fun i => (slotOf i).any fun e =>
         (Sparse.get i t.cd.image).any fun w => decide (w.entry.blocked ≠ e.blocked)
       let slots := unused ++ differing
       let free := if u.sc.staging = [] ∧ u.sc.queue.length < 16 then 17 - u.sc.queue.length else 16 - u.sc.queue.length
       let placed := u.sc.queue ++ (slots.take free).map fun i =>
         StoreItem.mk (.dir i) (((Sparse.get i t.cd.image).map fun w => w.entry.image).getD (List.replicate 16 0))
       let first := if slots.take free = [] then none else
         (u.sc.staging.head?.map fun r => StoreItem.mk (.log (r.index % 1024)) r.image).or placed.head?
       t.cd.held = slots.drop free ∧
       t.sc = { u.sc with
         inFlight := first
         staging := if first.isSome then u.sc.staging.tail else u.sc.staging
         queue := if first.isSome ∧ u.sc.staging = [] then placed.tail else placed }) ∧
      DirectoryLaw t.cd ∧
      (∀ i < 2048,
        let w := Sparse.get i t.cd.image
        (∀ x ∈ w, ∃ e ∈ own i,
          x.entry = { e with blocked := ((newestRecord e.card t.ru).map RevRecord.block).getD e.blocked } ∧
          x.usage = (match Sparse.get i u.cd.image with
            | some y => if y.entry.card = e.card then y.usage else 0
            | none => 0)) ∧
        (∀ e ∈ own i, (∀ j < i, j / 8 = i / 8 → ∀ g ∈ own j, g.card ≠ e.card) → w.isSome = true)) ∧
      t.ru = { u.ru with list := t.ru.list, base := base, mark := t.ru.mark } ∧
      RevocationLaw t.ru ∧
      (∀ r ∈ t.ru.list, revOf (r.seq % 64) = some r) ∧
      ((∀ i < 64, revOf i = none) → t.ru.list = [] ∧ t.ru.mark = base) ∧
      (∀ i < 64, ∀ r ∈ revOf i, r.seq ≤ t.ru.mark ∧ t.ru.list ≠ []) ∧
      (base < t.ru.mark → t.ru.mark - t.ru.list.length = base ∨ t.ru.list.length = 64 ∨
        ∀ r ∈ revOf ((t.ru.mark - t.ru.list.length) % 64), r.seq ≠ t.ru.mark - t.ru.list.length) ∧
      ((∀ i < 1024, logOf i = none) → t.dl = ⟨0, 0⟩) ∧
      (∀ i < 1024, ∀ h ∈ logOf i, (∀ j < 1024, ∀ n ∈ logOf j, n ≤ h) →
        t.dl.next = min 4294967295 (h + 1) ∧ t.dl.oldest ≤ h ∧ h < t.dl.oldest + 1024 ∧
        (∀ n < h + 1 - t.dl.oldest, logOf ((t.dl.oldest + n) % 1024) = some (t.dl.oldest + n)) ∧
        (t.dl.oldest = 0 ∨ h + 1 = t.dl.oldest + 1024 ∨
          logOf ((t.dl.oldest - 1) % 1024) ≠ some (t.dl.oldest - 1))) ∧
      ((∃ i < 1024, logOf i ≠ none) → (∀ i < 1024, logOf i ≠ some 4294967295) → t.dl.oldest < t.dl.next) ∧
      t.dl.oldest ≤ t.dl.next

/-- CONTAINER_STATE_DERIVATION (R188, R189, Table 11-1): each container's state from its inputs and FE's class, then the entry to
RUN at every block: timers from 0, the request flag of each PRESENT container whose EU record holds its cold-reset values and of no
other (R24, R46), READY to each reader, the first beacon within one interval (the draw is a free value, log entry 2), the ALARM of a
pending set that was kept, and the conditions raised at the entry: ECHO_FAIL, CONFIG_CLAMPED, LOG_LOST and COUNTER_FULL (R64, R170);
with none of them due the pending set stays. The line is not busy and counts as idle from 0, a container outside the count is sent
no READY, and a settled mark decides whether a level counts (log entries 40, 17 and 16, the model's readings). -/
def Obligations.DerivationEntersRun : Prop :=
  ∀ (s : State) (d : Nat), s.atStage .derivation = true →
    let u := s.advance d
    ∃ t, exec (.containerStateDerivation d) s = .next t ∧
      t = { u with
        cl := { u.cl with phase := .run, startKind := .warm }
        cc := t.cc, eu := t.eu, fe := t.fe, au := t.au, lc := t.lc, nu := t.nu, tu := t.tu, acu := t.acu
        sc := { u.sc with logLostDue := false, counterFullDue := false }
        freeIndex := t.freeIndex } ∧
      (∀ c : Col, c.val < u.cl.image.count →
        let x := u.cc.get c
        let f := u.fe.get c
        let drum := if x.drumSettled then x.drum else .opened
        let sense := if x.senseSettled then x.sense else .released
        let level := if x.presentSettled then x.present else .present
        let away := level = .absent
        t.cc.get c = { x with
          drum := drum, sense := sense, present := level, cls := f.cls, drive := .engage
          state := if away then .lifted else if drum = .opened then .fault else if f.cls = .full then .full else .idle
          roundId := if away then some (x.roundId.getD 0) else none
          fillBefore := if away ∧ x.state ≠ .lifted ∧ x.state ≠ .missing then f.e else x.fillBefore
          confirm := ⟨0, decide (sense = .released ∧ drum = .closed)⟩
          drumTimer := ⟨0, decide (drum = .opened)⟩
          lift := ⟨0, decide away⟩ } ∧
        t.au.get c = withIndication (.plain .ready) (u.au.get c) ∧
        t.fe.get c = { f with nAtStart := (t.fe.get c).nAtStart } ∧
        ((u.eu.cols.get c).fresh = true → level = .present → u.eu.inFlight = none →
          (t.eu.cols.get c).request = true ∨ ∃ m ∈ t.eu.inFlight, m.cont = c) ∧
        ((u.eu.cols.get c).fresh = false ∨ level = .absent →
          (t.eu.cols.get c).request = false ∧ t.fe.get c = f ∧
          ∀ m ∈ t.eu.inFlight, m.cont = c → u.eu.inFlight = some m) ∧
        t.eu.cols.get c = { u.eu.cols.get c with
          periodic := ⟨0, true⟩, fresh := false, request := (t.eu.cols.get c).request } ∧
        (u.acu.levels = 0 → t.level .echoFail c = decide (6 ≤ f.echoFail))) ∧
      (∀ c : Col, u.cl.image.count ≤ c.val →
        t.cc.get c = u.cc.get c ∧ t.au.get c = u.au.get c ∧ t.fe.get c = u.fe.get c ∧ t.eu.cols.get c = u.eu.cols.get c) ∧
      t.eu = { u.eu with cols := t.eu.cols, pointer := t.eu.pointer, inFlight := t.eu.inFlight } ∧
      (t.eu.inFlight = u.eu.inFlight → t.eu.pointer = u.eu.pointer) ∧
      (u.eu.inFlight = none → ∀ m ∈ t.eu.inFlight, t.eu.pointer = m.cont.val) ∧
      t.lc.idle = 0 ∧ t.lc.busy = false ∧ t.lc.silence = ⟨0, true⟩ ∧
      t.nu = { u.nu with periodicLeft := t.nu.periodicLeft, holdoff := ⟨5000000, false⟩, early := false } ∧
      (∃ k ≤ u.cfg.beaconInterval, t.nu.periodicLeft = k * 1000000) ∧
      t.tu = { u.tu with aging := if u.tu.hops = 15 then ⟨0, false⟩ else ⟨0, true⟩ } ∧
      t.acu.report = ⟨0, true⟩ ∧
      (u.cl.clamped = true → u.cfg.masked.getLsbD 7 = false → t.acu.pending.getLsbD 7 = true) ∧
      (u.sc.logLostDue = true → u.cfg.masked.getLsbD 4 = false → t.acu.pending.getLsbD 4 = true) ∧
      (u.sc.counterFullDue = true → u.cfg.masked.getLsbD 5 = false → t.acu.pending.getLsbD 5 = true) ∧
      u.acu.pending ||| t.acu.pending = t.acu.pending ∧
      (u.cl.clamped = false → u.sc.logLostDue = false → u.sc.counterFullDue = false →
        (∀ c : Col, c.val < u.cl.image.count → (u.fe.get c).echoFail < 6) → u.acu.live.txAbandoned ≠ 65534 →
        t.acu = { u.acu with report := ⟨0, true⟩, live := t.acu.live }) ∧
      (t.acu.pending = 0 → t.lc.queue = u.lc.queue) ∧
      (t.acu.pending ≠ 0 → u.cfg.ownAddress ≠ 0 → u.lc.queue = [] →
        t.lc.queue = [{ kind := .alarm, dest := 63, tag := u.lc.tag, payload := [], cls := 1, arrival := u.lc.arrivals,
                        attempts := 0, deadline := none, departure := false, backoff := none }] ∧
        t.acu.live = u.acu.live)

/-! ## The columns -/

/-- The end of a grant under which a container is GRANTED or DEPOSITING (R12, R81): a GRANT_END record, END to the reader, no grant
record, and the container to HELD for a waiting round, else to FULL or IDLE by class, with the drive at ENGAGE. A curtailment ends a
GRANTED grant at once, leaves the first reason with a DEPOSITING one, and does nothing else (R11). A BLOCK told to AU (R82) curtails
the ACTIVE grant that carries the card, and marks a REQUESTED one. The opening time after a grant
is the model's choice (log entry 61).
The order of the reports to NU and ACU within the event is the model's choice (log entry 66). -/
def Obligations.GrantsEndAndCurtail : Prop :=
  (∀ (s : State) (c : Col) (reason : EndReason), s.inRun = true →
    underGrant (s.cc.get c) → (s.cc.get c).drive = .release →
    ∀ g ∈ (s.au.get c).grant,
      let x := s.cc.get c
      let t := endGrant c reason s
      t = { s with
        cc := t.cc, au := t.au, sc := t.sc, dl := t.dl, lc := t.lc, nu := t.nu, acu := t.acu, freeIndex := t.freeIndex } ∧
      t.cc = s.cc.set c { x with
        state := if x.waitingRound.isSome then .held else if x.cls = .full then .full else .idle
        drive := .engage
        confirm := ⟨0, decide (x.sense = .released ∧ x.drum = .closed)⟩
        pendingEnd := none, opening := ⟨0, false⟩, waitingRound := none
        roundId := if x.waitingRound.isSome then x.waitingRound else x.roundId
        hold := if x.waitingRound.isSome then ⟨0, true⟩ else x.hold } ∧
      t.au = s.au.set c (withIndication ⟨.endGrant, g.done, 0, none, some reason⟩ { s.au.get c with grant := none }) ∧
      t.sc = (offerRecord c (s.fe.get c).e (.grantEnd g.card g.done reason) s).sc ∧
      t.dl = (offerRecord c (s.fe.get c).e (.grantEnd g.card g.done reason) s).dl ∧
      (x.sense = .engaged → t.level .lockFault c = false)) ∧
  (∀ (s : State) (c : Col) (reason : EndReason),
    let x := s.cc.get c
    (x.state = .granted → curtail c reason s = endGrant c reason s) ∧
    (x.state = .depositing → curtail c reason s =
      if x.pendingEnd.isSome then s else { s with cc := s.cc.set c { x with pendingEnd := some reason } }) ∧
    (¬underGrant x → curtail c reason s = s)) ∧
  (∀ (s : State) (card : Word32), GrantsDistinct s →
    ((∀ c : Col, ∀ g ∈ (s.au.get c).grant, g.card ≠ card) → blockCard card s = s) ∧
    ∀ c : Col, ∀ g ∈ (s.au.get c).grant, g.card = card →
      (g.active = true → blockCard card s = curtail c .curtailedRevoked s) ∧
      (g.active = false → blockCard card s =
        { s with au := s.au.set c { s.au.get c with grant := some { g with revoked := true } } }))

/-- A completed deposit cycle (R9, R41, R50, R80): D_e and DEPOSITS, then n_d, E and the class with the settle timer from 0, then
the grant's cycles done and, when metered, the card's usage. -/
def Obligations.CyclesCountEverywhere : Prop :=
  ∀ (s : State) (c : Col), s.inRun = true → ∀ g ∈ (s.au.get c).grant,
    let x := s.cc.get c
    let f := s.fe.get c
    let nd := min 255 (f.nd + 1)
    let e := min 1000 (f.pm + nd * f.inc)
    let cls := nextClass f.cls e f.tNear (s.ccfg c).tFull
    let t := completeCycle c s
    t = { s with
      cc := t.cc, eu := t.eu, fe := t.fe, cd := t.cd, au := t.au, lc := t.lc, nu := t.nu, acu := t.acu
      freeIndex := t.freeIndex } ∧
    t.cc = s.cc.set c { x with
      depositsE := min 65535 (x.depositsE + 1), cls := if cls = f.cls then x.cls else cls } ∧
    t.fe.get c = { f with nd := nd, e := e, cls := cls, nAtStart := (t.fe.get c).nAtStart } ∧
    t.au = s.au.set c { s.au.get c with grant := some { g with done := g.done + 1 } } ∧
    t.cd = (match g.metered, lookupCard g.card s with
      | true, some (slot, w) =>
        { s.cd with image := Sparse.put slot { w with usage := min 255 (w.usage + 1) } s.cd.image }
      | _, _ => s.cd) ∧
    t.acu.live.deposits.get c = min 65535 (s.acu.live.deposits.get c + 1) ∧
    (t.eu.cols.get c).settle = ⟨0, true⟩ ∧
    (cls = f.cls ∨ cls ≠ .full →
      t.fe = s.fe.set c { f with nd := nd, e := e, cls := cls } ∧
      t.eu = { s.eu with cols := s.eu.cols.set c { s.eu.cols.get c with settle := ⟨0, true⟩ } }) ∧
    (cls ≠ f.cls → cls = .full → s.serves c = true → x.present = .present →
      (t.eu.cols.get c).request = true ∨ ∃ m ∈ t.eu.inFlight, m.cont = c) ∧
    (cls ≠ f.cls → s.nu.holdoff.running = true → t.nu.early = true)

/-- INPUT_LEVEL_SETTLED and the six input commands outside RUN (R1, R22, R188): the debounced level is set and nothing else; in
RUN a level that first settles is an input event when it differs from the fixed level taken, else the level merely counts as
settled. An input command whose level already reads so is no event (the model's reading, log entry 21); a level settles while RESET_N
is held low too (log entry 59), and a column that is not the station's takes nothing (log entry 18), the model's choices. -/
def Obligations.LevelsSettleWithoutEvents : Prop :=
  ∀ (s : State) (d : Nat) (c : Col) (l : InputLevel),
    let u := s.advance d
    let x := u.cc.get c
    let event : Instr := match l with
      | .drum .opened => .drumOpen d c
      | .drum .closed => .drumClosed d c
      | .lock .engaged => .lockSenseEngaged d c
      | .lock .released => .lockSenseReleased d c
      | .present .absent => .containerAbsent d c
      | .present .present => .containerPresent d c
    let y := match l with
      | .drum v => { x with drum := v, drumSettled := true }
      | .lock v => { x with sense := v, senseSettled := true }
      | .present v => { x with present := v, presentSettled := true }
    let reads := match l with
      | .drum v => decide (x.drum = v)
      | .lock v => decide (x.sense = v)
      | .present v => decide (x.present = v)
    let settled := match l with
      | .drum _ => x.drumSettled
      | .lock _ => x.senseSettled
      | .present _ => x.presentSettled
    (s.cl.powered = true → s.inRun = false →
      exec (.inputLevelSettled d c l) s = .next { u with cc := u.cc.set c y } ∧
      exec event s = .next { u with cc := u.cc.set c y }) ∧
    (s.serves c = true → settled = true → exec (.inputLevelSettled d c l) s = .next u) ∧
    (s.serves c = true → settled = false → reads = true →
      exec (.inputLevelSettled d c l) s = .next { u with cc := u.cc.set c y }) ∧
    (s.serves c = true → settled = false → reads = false → exec (.inputLevelSettled d c l) s = exec event s) ∧
    (s.serves c = true → reads = true → exec event s = .next u) ∧
    (s.cl.powered = false ∨ (s.inRun = true ∧ s.inUse c = false) →
      exec (.inputLevelSettled d c l) s = .next u ∧ exec event s = .next u)

/-- DRUM_OPEN in RUN (R8, R4, R10, R77): under a grant the container is DEPOSITING with the opening and drum-open times from 0 and
the window stopped; in IDLE, FULL, SETTLING, HELD or FAULT the drum was forced and the container is in FAULT; in LIFTED and MISSING
only the times start. That DRUM_FORCED does not ask for the PRESENT level R8 names, which those states imply, is the model's reading
(log entry 34).
The order of the reports to NU and ACU within the event is the model's choice (log entry 66). -/
def Obligations.DrumOpenDepositsOrForces : Prop :=
  ∀ (s : State) (d : Nat) (c : Col), s.serves c = true → (s.cc.get c).drum = .closed →
    ((s.cc.get c).drive = .release ↔ underGrant (s.cc.get c)) →
    let u := s.advance d
    let x := u.cc.get c
    let y := { x with
      drum := DrumLevel.opened, drumSettled := true, confirm := ⟨x.confirm.us, false⟩, drumTimer := ⟨0, true⟩ }
    (x.state = .granted → exec (.drumOpen d c) s = .next { u with
      cc := u.cc.set c { y with state := .depositing, opening := ⟨0, true⟩ }
      au := u.au.set c { u.au.get c with
        grant := (u.au.get c).grant.map fun g => { g with window := ⟨g.window.us, false⟩ } } }) ∧
    (x.state = .depositing ∨ x.state = .lifted ∨ x.state = .missing →
      exec (.drumOpen d c) s = .next { u with cc := u.cc.set c y }) ∧
    (x.state = .fault → exec (.drumOpen d c) s = .next (occur .drumForced c { u with cc := u.cc.set c y })) ∧
    (x.state = .idle ∨ x.state = .full ∨ x.state = .settling ∨ x.state = .held →
      exec (.drumOpen d c) s = .next (summaryChange (occur .drumForced c { u with cc := u.cc.set c { y with
        state := .fault
        settleFailures := if x.state = .settling then 0 else x.settleFailures
        roundId := if x.state = .held then none else x.roundId
        hold := if x.state = .held then ⟨x.hold.us, false⟩ else x.hold } })))

/-- DRUM_CLOSED in DEPOSITING (R9, R77): an opening of at least 1 s is one cycle; then the first case that applies decides: a
pending end reason, the cycles used up, FULL by this cycle, else back to GRANTED with the window from 0 after a cycle and running
on after a short opening. What the opening time holds after the opening is the model's choice (log entry 61).
The order of the reports to NU and ACU within the event is the model's choice (log entry 66). -/
def Obligations.DrumClosedDecidesTheGrant : Prop :=
  ∀ (s : State) (d : Nat) (c : Col), s.serves c = true → (s.cc.get c).state = .depositing → (s.cc.get c).drum = .opened →
    (s.cc.get c).drive = .release →
    let u := s.advance d
    let x := u.cc.get c
    let cycled := decide (1000000 ≤ x.opening.us)
    let v := lower .drumHeld c { u with cc := u.cc.set c { x with
      drum := .closed, drumSettled := true, drumTimer := ⟨0, false⟩
      confirm := if x.sense = .released then x.confirm else ⟨x.confirm.us, true⟩ } }
    let w := if cycled then completeCycle c v else v
    ∀ g ∈ (w.au.get c).grant,
      let reason : Option EndReason :=
        if x.pendingEnd.isSome then x.pendingEnd
        else if cycled = true ∧ g.done = g.allowed then some .cycles
        else if cycled = true ∧ (u.fe.get c).cls ≠ .full ∧ (w.fe.get c).cls = .full then some .curtailedFull
        else none
      exec (.drumClosed d c) s = .next (match reason with
        | some r => endGrant c r w
        | none => { w with
          cc := w.cc.set c { w.cc.get c with state := .granted, opening := ⟨(w.cc.get c).opening.us, false⟩ }
          au := w.au.set c { w.au.get c with
            grant := some { g with window := if cycled then ⟨0, true⟩ else ⟨g.window.us, true⟩ } } })

/-- DRUM_CLOSED outside DEPOSITING (R4, R6, R10) and the lock sense (R4, R6): the drum-open timer stands at 0 and DRUM_HELD falls; a
drum that closes lets the confirmation timer of a disagreeing sense run on from the value it kept; a sense that comes to agree with
the drive stops the timer and lowers LOCK_FAULT, one that disagrees starts it when the drum is closed; a container in FAULT whose
pair is complete goes to IDLE or FULL by class. CONFIRMATION_TIMER_EXPIRY (R5, R6, R8): LOCK_FAULT rises; IDLE, FULL and SETTLING go
to FAULT, the settle-failure count of SETTLING discarded, HELD as well with its claim dropped; in GRANTED the grant ends with reason
WINDOW and a waiting claim is dropped, and FAULT is left at once because the sense, still ENGAGED with the drum closed, agrees with
the ENGAGE drive; other states stay. What the timer holds after its expiry, 2 s and stopped, is the model's choice (log entry 48),
and so is the opening time at the end of the grant (log entry 61).
The order of the reports to NU and ACU within the event is the model's choice (log entry 66). -/
def Obligations.LockFaultsComeAndGo : Prop :=
  (∀ (s : State) (d : Nat) (c : Col), s.serves c = true → ((s.cc.get c).state = .fault → (s.cc.get c).drive = .engage) →
    let u := s.advance d
    let x := u.cc.get c
    let byClass : CcState := if x.cls = .full then .full else .idle
    let agrees := fun (l : LockLevel) => l = .engaged ↔ x.drive = .engage
    (x.drum = .opened → x.state ≠ .depositing →
      let y := { x with
        drum := DrumLevel.closed, drumSettled := true, drumTimer := ⟨0, false⟩
        confirm := if agrees x.sense then x.confirm else ⟨x.confirm.us, true⟩ }
      exec (.drumClosed d c) s = .next (
        if x.state = .fault ∧ x.sense = .engaged then
          summaryChange (lower .lockFault c (lower .drumHeld c { u with cc := u.cc.set c { y with state := byClass } }))
        else lower .drumHeld c { u with cc := u.cc.set c y })) ∧
    (x.sense = .released →
      let y := { x with
        sense := LockLevel.engaged, senseSettled := true
        confirm := ⟨0, decide (¬agrees .engaged ∧ x.drum = .closed)⟩ }
      exec (.lockSenseEngaged d c) s = .next (
        if x.state = .fault ∧ x.drum = .closed then
          summaryChange (lower .lockFault c { u with cc := u.cc.set c { y with state := byClass } })
        else if agrees .engaged then lower .lockFault c { u with cc := u.cc.set c y }
        else { u with cc := u.cc.set c y })) ∧
    (x.sense = .engaged →
      let y := { x with
        sense := LockLevel.released, senseSettled := true
        confirm := ⟨0, decide (¬agrees .released ∧ x.drum = .closed)⟩ }
      exec (.lockSenseReleased d c) s = .next (
        if agrees .released then lower .lockFault c { u with cc := u.cc.set c y } else { u with cc := u.cc.set c y }))) ∧
  (∀ (s : State) (d : Nat) (c : Col), s.serves c = true → (s.cc.get c).confirm.running = true →
    ((s.cc.get c).drive = .release ↔ underGrant (s.cc.get c)) → (s.cc.get c).drum = .closed →
    let u := s.advance d
    let x := u.cc.get c
    let v := raise .lockFault c { u with cc := u.cc.set c { x with confirm := ⟨2000000, false⟩ } }
    let y := v.cc.get c
    let byClass : CcState := if x.cls = .full then .full else .idle
    (x.state = .depositing ∨ x.state = .lifted ∨ x.state = .missing ∨ x.state = .fault →
      exec (.confirmationTimerExpiry d c) s = .next v) ∧
    (x.sense = .released → x.state = .idle ∨ x.state = .full ∨ x.state = .settling ∨ x.state = .held →
      exec (.confirmationTimerExpiry d c) s = .next (summaryChange { v with cc := v.cc.set c { y with
        state := .fault
        settleFailures := if x.state = .settling then 0 else x.settleFailures
        roundId := if x.state = .held then none else x.roundId
        hold := if x.state = .held then ⟨x.hold.us, false⟩ else x.hold } })) ∧
    (x.sense = .engaged → x.state = .granted → ∀ g ∈ (u.au.get c).grant,
      ∃ t, exec (.confirmationTimerExpiry d c) s = .next t ∧
        t = { u with
          cc := t.cc, au := t.au, sc := t.sc, dl := t.dl, lc := t.lc, nu := t.nu, acu := t.acu
          freeIndex := t.freeIndex } ∧
        t.cc = u.cc.set c { x with
          state := byClass, drive := .engage, confirm := ⟨0, false⟩, pendingEnd := none, opening := ⟨0, false⟩
          waitingRound := none } ∧
        t.au = u.au.set c (withIndication ⟨.endGrant, g.done, 0, none, some .window⟩ { u.au.get c with grant := none }) ∧
        t.sc = (offerRecord c (u.fe.get c).e (.grantEnd g.card g.done .window) v).sc ∧
        t.dl = (offerRecord c (u.fe.get c).e (.grantEnd g.card g.done .window) v).dl ∧
        t.level .lockFault c = false ∧
        (u.level .lockFault c = false → u.cfg.masked.getLsbD 9 = false → t.isPending .lockFault c = true)))

/-- CONTAINER_ABSENT in RUN (R13, R23, R30): the container is LIFTED with the round that covers the lift, or 0 with UNCLAIMED_LIFT
raised; a grant ends with reason LIFTED; EU's request and the settle and return timers of the container are cleared and its
measurement is discarded, which frees EU to serve the next flagged container at once (R25, R27). In LIFTED and MISSING only EU's
part is done. CONTAINER_PRESENT in RUN (R15, R44): the return of a LIFTED or MISSING container, with its EMPTIED record formed
first; then the levels fall, the fill reset is applied, D_e is 0, the last emptied round id takes the round id, the return timer
starts, and the container goes to SETTLING, or to FAULT with its drum open or its lock sense released. In other states the level is
set. What the opening time holds after a lift is the model's choice (log entry 61). The order of the reports to NU and ACU within
the event is the model's choice (log entry 66). -/
def Obligations.LiftsAndReturnsOfTheContainer : Prop :=
  (∀ (s : State) (d : Nat) (c : Col), s.serves c = true → (s.cc.get c).present = .present →
    ((s.cc.get c).drive = .release ↔ underGrant (s.cc.get c)) →
    let u := s.advance d
    let x := u.cc.get c
    let covered := x.state = .held ∨ (underGrant x ∧ x.waitingRound.isSome = true)
    let served := fun (v : State) =>
      if v.eu.inFlight.isSome then v
      else match ((List.range v.cfg.count).map fun k => (v.eu.pointer + 1 + k) % v.cfg.count).find? fun i =>
          (v.eu.cols.get (Fin.ofNat 4 i)).request with
        | none => v
        | some i =>
          let k : Col := Fin.ofNat 4 i
          let deg := max (-40) (min 85 v.eu.temperature)
          let c10 := (3313 + 6 * deg).toNat
          { v with
            eu := { v.eu with
              cols := v.eu.cols.set k { v.eu.cols.get k with request := false, periodic := ⟨0, true⟩ }
              pointer := k.val
              inFlight := some ⟨k, .burst, deg, c10, 5000000 / c10, 0⟩ }
            fe := v.fe.set k { v.fe.get k with nAtStart := (v.fe.get k).nd } }
    let cleared := { u.eu with
      cols := u.eu.cols.set c { u.eu.cols.get c with request := false, settle := ⟨0, false⟩, ret := ⟨0, false⟩ } }
    let freed := if u.eu.inFlight.any fun m => decide (m.cont = c) then served { u with eu := { cleared with inFlight := none } }
      else { u with eu := cleared }
    let away := x.state = .lifted ∨ x.state = .missing
    (underGrant x → (u.au.get c).grant.isSome = true) →
    ∃ t, exec (.containerAbsent d c) s = .next t ∧
      t = { u with
        cc := t.cc, eu := t.eu, fe := t.fe, au := t.au, sc := t.sc, dl := t.dl, lc := t.lc, nu := t.nu, acu := t.acu
        freeIndex := t.freeIndex } ∧
      t.eu.cols.get c = { u.eu.cols.get c with request := false, settle := ⟨0, false⟩, ret := ⟨0, false⟩ } ∧
      t.fe.get c = u.fe.get c ∧ (∀ m ∈ t.eu.inFlight, m.cont ≠ c) ∧
      t.eu = freed.eu ∧ t.fe = freed.fe ∧
      (away → t.cc = u.cc.set c { x with present := .absent, presentSettled := true } ∧
        t.au = u.au ∧ t.sc = u.sc ∧ t.dl = u.dl ∧ t.lc = u.lc ∧ t.nu = u.nu ∧ t.acu = u.acu ∧ t.freeIndex = u.freeIndex) ∧
      (¬away → t.cc = u.cc.set c { x with
        present := .absent, presentSettled := true, state := .lifted, drive := .engage
        roundId := some (if x.state = .held then x.roundId.getD 0 else if underGrant x then x.waitingRound.getD 0 else 0)
        waitingRound := none, pendingEnd := none, opening := ⟨0, false⟩, lift := ⟨0, true⟩
        fillBefore := (u.fe.get c).e, settleFailures := 0
        hold := if x.state = .held then ⟨x.hold.us, false⟩ else x.hold
        confirm := if underGrant x then ⟨0, decide (x.sense = .released ∧ x.drum = .closed)⟩ else x.confirm }) ∧
      (¬away → ¬covered → t.level .unclaimedLift c = true) ∧
      (covered → t.level .unclaimedLift c = u.level .unclaimedLift c) ∧
      (¬underGrant x → t.au = u.au ∧ t.sc = u.sc ∧ t.dl = u.dl) ∧
      (underGrant x → ∀ g ∈ (u.au.get c).grant,
        t.au = u.au.set c (withIndication ⟨.endGrant, g.done, 0, none, some .lifted⟩ { u.au.get c with grant := none }) ∧
        t.sc = (offerRecord c (u.fe.get c).e (.grantEnd g.card g.done .lifted) u).sc ∧
        t.dl = (offerRecord c (u.fe.get c).e (.grantEnd g.card g.done .lifted) u).dl)) ∧
  (∀ (s : State) (d : Nat) (c : Col), s.serves c = true → (s.cc.get c).present = .absent →
    ((s.cc.get c).drive = .release ↔ underGrant (s.cc.get c)) →
    let u := s.advance d
    let x := u.cc.get c
    let f := u.fe.get c
    let away := x.state = .lifted ∨ x.state = .missing
    let settling := x.drum = .closed ∧ x.sense = .engaged
    let cls := nextClass f.cls 0 f.tNear (u.ccfg c).tFull
    let record : LogBody := .emptied (x.roundId.getD 0) x.fillBefore (x.lift.us / 1000000) x.depositsE
    (¬away → exec (.containerPresent d c) s = .next
      { u with cc := u.cc.set c { x with present := .present, presentSettled := true } }) ∧
    (away → ∃ t, exec (.containerPresent d c) s = .next t ∧
      t = { u with
        cc := t.cc, eu := t.eu, fe := t.fe, sc := t.sc, dl := t.dl, lc := t.lc, nu := t.nu, acu := t.acu
        freeIndex := t.freeIndex } ∧
      t.cc = u.cc.set c { x with
        present := .present, presentSettled := true
        state := if settling then .settling else .fault
        lastEmptied := x.roundId, roundId := none, depositsE := 0, lift := ⟨x.lift.us, false⟩
        cls := if cls = f.cls then x.cls else cls
        settleFailures := if settling then 0 else x.settleFailures } ∧
      t.fe = u.fe.set c { f with
        pm := 0, nd := 0, history := [], suspect := 0, emptied := true, e := 0, cls := cls } ∧
      t.eu = { u.eu with cols := u.eu.cols.set c { u.eu.cols.get c with ret := ⟨0, true⟩ } } ∧
      t.sc = (offerRecord c 0 record u).sc ∧ t.dl = (offerRecord c 0 record u).dl ∧
      t.level .containerMissing c = false ∧ t.level .unclaimedLift c = false ∧
      (x.drum = .opened → u.cfg.masked.getLsbD 13 = false → t.isPending .drumForced c = true) ∧
      (u.nu.holdoff.running = true → t.nu.early = true)))

/-- The limits of the column timers: DRUM_HELD_EXPIRY (R10) raises DRUM_HELD and changes no state; LIFT_LIMIT_EXPIRY (R14) takes
LIFTED to MISSING and raises CONTAINER_MISSING; HOLD_TIMER_EXPIRY (R18, R150) lapses the claim, counts CLAIM_LAPSED and leaves HELD
by class. Where the timer does not run, the command does nothing (log entry 1, the model's choice).
The order of the reports to NU and ACU within the event is the model's choice (log entry 66). -/
def Obligations.ColumnTimersExpire : Prop :=
  ∀ (s : State) (d : Nat) (c : Col), s.serves c = true →
    let u := s.advance d
    let x := u.cc.get c
    (x.drum = .opened → x.drumTimer.running = true → exec (.drumHeldExpiry d c) s = .next
      (raise .drumHeld c { u with cc := u.cc.set c { x with drumTimer := ⟨90000000, false⟩ } })) ∧
    (x.state = .lifted → x.drive = .engage → exec (.liftLimitExpiry d c) s = .next
      (raise .containerMissing c { u with cc := u.cc.set c { x with
        state := .missing
        lift := ⟨max x.lift.us (u.cfg.liftLimit * 1000000), x.lift.running⟩ } })) ∧
    (x.state = .held → x.drive = .engage → exec (.holdTimerExpiry d c) s = .next
      (summaryChange (count .claimLapsed 1 { u with cc := u.cc.set c { x with
        state := if x.cls = .full then .full else .idle
        roundId := none
        hold := ⟨u.cfg.holdTime * 1000000, false⟩ } }))) ∧
    (x.drum = .closed ∨ x.drumTimer.running = false → exec (.drumHeldExpiry d c) s = .next u) ∧
    (x.state ≠ .lifted → exec (.liftLimitExpiry d c) s = .next u) ∧
    (x.state ≠ .held → exec (.holdTimerExpiry d c) s = .next u) ∧
    (x.confirm.running = false → exec (.confirmationTimerExpiry d c) s = .next u)

/-! ## Cards and readers -/

/-- CARD_READ that is not judged (R67, R69, R79): OUT_OF_SERVICE in STARTING and SAFE, nothing while RESET_N is low or the part has
no power; in RUN the holder's presentation, which restarts the window and shows GRANT with the cycles left, and the read of a
REQUESTED card, which is only counted. -/
def Obligations.CardReadsOutsideTheChecks : Prop :=
  ∀ (s : State) (d : Nat) (c : Col) (card : Word32) (issue : Byte) (fault : Bool),
    let u := s.advance d
    let v := count .cardsPresented 1 u
    (s.cl.powered = true → s.cl.resetLow = false → s.cl.phase ≠ .run →
      exec (.cardRead d c card issue fault) s = .next
        { u with au := u.au.set c (withIndication (.plain .outOfService) (u.au.get c)) }) ∧
    (s.cl.powered = false ∨ s.cl.resetLow = true → exec (.cardRead d c card issue fault) s = .next u) ∧
    (s.serves c = true → s.cl.resetLow = false → fault = false → ∀ g ∈ (u.au.get c).grant, g.card = card →
      (g.active = true → exec (.cardRead d c card issue fault) s = .next { v with
        au := u.au.set c (withIndication ⟨.grant, g.allowed - g.done, g.windowLength, none, none⟩ { u.au.get c with
          grant := some { g with window := ⟨0, decide ((u.cc.get c).state = .granted)⟩ } }) }) ∧
      (g.active = false → exec (.cardRead d c card issue fault) s = .next v))

/-- CARD_READ judged in RUN (R69 to R76, R83): the first failing check of Table 4-2 refuses the card, a failing check 10 naming the
redirect target when there is one; when none fails a grant is requested, with its cycles and window fixed. A read of status FAULT is
judged, and fails check 1, even while a grant is requested for a card (the premise on the card; log entry 36, the model's reading);
the failing check 10 is that of a container whose state is not IDLE as CARD_READ finds it, GRANT_REQUEST being an event of its own
(log entry 44, the model's reading). The window timer of the REQUESTED record is
0, stopped, the model's choice (log entry 63). -/
def Obligations.CardsAreJudgedInOrder : Prop :=
  ∀ (s : State) (d : Nat) (c : Col) (card : Word32) (issue : Byte) (fault : Bool),
    s.serves c = true → s.cl.resetLow = false →
    let u := s.advance d
    (fault = true ∨ ∀ g ∈ (u.au.get c).grant, g.card ≠ card) →
    let fraction := (u.ccfg c).fraction
    let capOf := fun (w : DirWay) => u.cfg.caps.get w.entry.capClass
    let limited := fun (w : DirWay) => u.cfg.metered.getLsbD fraction = true ∧ 0 < capOf w
    let closing := fun (g : Grant) =>
      g.active = true ∧ ((u.cc.get c).waitingRound.isSome = true ∨ (u.cc.get c).pendingEnd.isSome = true)
    let failing : Option IndCode :=
      if fault then some .readFault
      else if card.toNat / 1048576 ≠ u.cfg.districtPrefix then some .foreign
      else match lookupCard card u with
        | none => some .unknown
        | some (_, w) =>
          if w.entry.blocked then some .blocked
          else if w.entry.issue ≠ issue then some .staleCard
          else if w.entry.mask.getLsbD fraction = false then some .notPermitted
          else if ∃ e : Col, e ≠ c ∧ ∃ g ∈ (u.au.get e).grant, g.card = card then some .cardInUse
          else if ∃ g ∈ (u.au.get c).grant, ¬closing g then some .busy
          else if limited w ∧ capOf w ≤ w.usage then some .capReached
          else if (u.cc.get c).state ≠ .idle then some .closed
          else none
    let refused := fun (cause : IndCode) (number : Option Word32) (target : Option Target) =>
      let v := count .refusals 1 (count .cardsPresented 1 u)
      let w := if cause = .redirect then count .redirects 1 v else v
      offerRecord c (u.fe.get c).e (.refusal cause number target)
        { w with au := u.au.set c (withIndication ⟨cause, 0, 0, target, none⟩ (u.au.get c)) }
    exec (.cardRead d c card issue fault) s = .next (match failing with
      | some .closed => (match redirectTarget u c with
        | some target => refused .redirect (some card) (some target)
        | none => refused .closed (some card) none)
      | some .readFault => refused .readFault none none
      | some cause => refused cause (some card) none
      | none => (match lookupCard card u with
        | none => u
        | some (_, w) =>
          { count .cardsPresented 1 u with au := u.au.set c { u.au.get c with grant := some {
            active := false
            card := card
            metered := decide (limited w)
            allowed := if limited w then min (u.ccfg c).cycles (capOf w - w.usage) else (u.ccfg c).cycles
            done := 0
            windowLength := if w.entry.assist then 2 * u.cfg.grantWindow else u.cfg.grantWindow
            window := ⟨0, false⟩
            revoked := false } } }))

/-- The redirect target (R84 to R86): none exactly when no container qualifies; otherwise a container that qualifies and that no
other precedes by class, own before neighbour, rank, fill percent, address and index. -/
def Obligations.RedirectNamesTheFirstCandidate : Prop :=
  ∀ (s : State) (c : Col),
    let own := cols.filter fun e => decide (e.val < s.cl.image.count ∧ e ≠ c ∧
      (s.ccfg e).fraction = (s.ccfg c).fraction ∧ (s.cc.get e).state = .idle ∧ (s.fe.get e).unknown = false)
    let named := s.nu.table.filter fun n => decide (n.age ≤ 3 * s.cfg.beaconInterval ∧ n.marginal = false ∧
      (n.rank.isSome = true ∨ s.cfg.openRedirect = true))
    let accepts := fun (x : Summary) =>
      decide (x.fraction.toNat = (s.ccfg c).fraction ∧ x.group.toNat = 0 ∧ x.unknown = false)
    let keys := own.map (fun e => [(s.fe.get e).cls.code, 0, 0, (s.fe.get e).e / 10, s.cfg.ownAddress, e.val]) ++
      named.flatMap fun n => (List.range n.summaries.length).flatMap fun i =>
        (n.summaries[i]?.toList.filter accepts).map fun x =>
          [x.cls.toNat, 1, n.rank.getD 8, x.fillPercent.toNat, n.address, i]
    (keys = [] → redirectTarget s c = none) ∧
    (keys ≠ [] → ∃ first ∈ keys, redirectTarget s c = some ⟨first.getD 4 0, first.getD 5 0⟩ ∧
      ∀ other ∈ keys, keysBefore other first = false)

/-- REPEAT, INDICATION_SEND_COMPLETE and a message that fails its test (R67, R68): the last indication goes out again; a send that
ends is followed by the waiting indication; a message that fails is not answered (bytes that spell a message are taken as it, the
model's choice, log entry 19). That a send which ends is taken in every phase is the model's reading (log entry 45). -/
def Obligations.ReaderChannelsSendTheNewest : Prop :=
  ∀ (s : State) (d : Nat) (c : Col),
    let u := s.advance d
    let a := u.au.get c
    (s.cl.powered = true → s.cl.resetLow = false → s.cl.phase ≠ .run ∨ s.inUse c = true →
      exec (.repeatIndication d c) s = .next { u with au := u.au.set c (withIndication a.last a) }) ∧
    (s.cl.powered = false ∨ s.cl.resetLow = true → exec (.repeatIndication d c) s = .next u) ∧
    (a.sending.isSome = true → exec (.indicationSendComplete d c) s = .next
      { u with au := u.au.set c { a with sending := a.waiting, waiting := none } }) ∧
    (a.sending = none → exec (.indicationSendComplete d c) s = .next u) ∧
    (∀ b : List Byte, b.getLast? ≠ some (crc8 0 b.dropLast) ∨ (byteAt b 0 ≠ 0xC1 ∧ byteAt b 0 ≠ 0xC2) ∨
        (byteAt b 0 = 0xC1 ∧ (b.length ≠ 8 ∨ (byteAt b 6 ≠ 0 ∧ byteAt b 6 ≠ 1))) ∨ (byteAt b 0 = 0xC2 ∧ b.length ≠ 2) →
      exec (.readerMessageDiscarded d c b) s = .next u) ∧
    (∀ b : List Byte, b = [0xC2, crc8 0 [0xC2]] →
      exec (.readerMessageDiscarded d c b) s = exec (.repeatIndication d c) s)

/-- GRANT_REQUEST (R7, R75, R82): taken in IDLE, the container is GRANTED with the drive at RELEASE, the window runs from 0 and the
reader is shown GRANT, and a revoked mark then curtails the grant at once; in any other state it is refused as by check 10.
WINDOW_TIMER_EXPIRY (R12, R78): in GRANTED the grant ends with reason WINDOW; elsewhere, or with no ACTIVE grant, nothing.
The order of the reports to NU and ACU within the event is the model's choice (log entry 66). -/
def Obligations.GrantRequestsAndWindowExpiry : Prop :=
  (∀ (s : State) (d : Nat) (c : Col), s.serves c = true →
    ((s.cc.get c).drive = .release ↔ underGrant (s.cc.get c)) →
    let u := s.advance d
    let x := u.cc.get c
    let a := u.au.get c
    ∀ g ∈ a.grant, g.active = false →
      let taken := { count .grants 1 (if x.sense = .released then lower .lockFault c u else u) with
        cc := u.cc.set c { x with
          state := .granted, drive := .release, pendingEnd := none, drumTimer := ⟨0, false⟩, opening := ⟨0, false⟩
          confirm := ⟨0, decide (x.sense = .engaged ∧ x.drum = .closed)⟩ }
        au := u.au.set c (withIndication ⟨.grant, g.allowed, g.windowLength, none, none⟩ { a with
          grant := some { g with active := true, window := ⟨0, true⟩ } }) }
      let refused := fun (cause : IndCode) (target : Option Target) =>
        let v := count .refusals 1 u
        let w := if cause = .redirect then count .redirects 1 v else v
        offerRecord c (u.fe.get c).e (.refusal cause (some g.card) target)
          { w with au := u.au.set c (withIndication ⟨cause, 0, 0, target, none⟩ { a with grant := none }) }
      (x.state = .idle → exec (.grantRequest d c) s = .next
        (if g.revoked then endGrant c .curtailedRevoked taken else taken)) ∧
      (x.state ≠ .idle → exec (.grantRequest d c) s = .next (match redirectTarget u c with
        | some target => refused .redirect (some target)
        | none => refused .closed none))) ∧
  (∀ (s : State) (d : Nat) (c : Col), s.serves c = true →
    let u := s.advance d
    ((u.cc.get c).state = .granted → (∃ g ∈ (u.au.get c).grant, g.active = true) →
      exec (.windowTimerExpiry d c) s = .next (endGrant c .window u)) ∧
    ((u.cc.get c).state ≠ .granted ∨ (∀ g ∈ (u.au.get c).grant, g.active = false) →
      exec (.windowTimerExpiry d c) s = .next u))

/-! ## Measurement -/

/-- The three request timers of a container (R23, R24): each expiry stops or restarts its timer and, with the container PRESENT,
sets the request flag, which a free EU serves at once in the cyclic order after the pointer (R25, R27). -/
def Obligations.RequestTimersAskForMeasurements : Prop :=
  ∀ (s : State) (d : Nat) (c : Col), s.serves c = true →
    let u := s.advance d
    let e := u.eu.cols.get c
    let present := (u.cc.get c).present = .present
    let asked := fun (y : EuCol) => { u with eu := { u.eu with cols := u.eu.cols.set c { y with
      request := if present then true else y.request } } }
    let served := fun (v : State) =>
      if v.eu.inFlight.isSome then v
      else match ((List.range v.cfg.count).map fun k => (v.eu.pointer + 1 + k) % v.cfg.count).find? fun i =>
          (v.eu.cols.get (Fin.ofNat 4 i)).request with
        | none => v
        | some i =>
          let k : Col := Fin.ofNat 4 i
          let deg := max (-40) (min 85 v.eu.temperature)
          let c10 := (3313 + 6 * deg).toNat
          { v with
            eu := { v.eu with
              cols := v.eu.cols.set k { v.eu.cols.get k with request := false, periodic := ⟨0, true⟩ }
              pointer := k.val
              inFlight := some ⟨k, .burst, deg, c10, 5000000 / c10, 0⟩ }
            fe := v.fe.set k { v.fe.get k with nAtStart := (v.fe.get k).nd } }
    (e.periodic.running = true → exec (.euPeriodicTimerExpiry d c) s = .next (
      if present then served (asked { e with periodic := ⟨0, true⟩ })
      else served { u with eu := { u.eu with cols := u.eu.cols.set c { e with periodic := ⟨0, true⟩ } } })) ∧
    (e.settle.running = true → exec (.settleTimerExpiry d c) s = .next (served (asked { e with settle := ⟨0, false⟩ }))) ∧
    (e.ret.running = true → exec (.returnTimerExpiry d c) s = .next (served (asked { e with ret := ⟨0, false⟩ }))) ∧
    (e.periodic.running = false → exec (.euPeriodicTimerExpiry d c) s = .next u) ∧
    (e.settle.running = false → exec (.settleTimerExpiry d c) s = .next u) ∧
    (e.ret.running = false → exec (.returnTimerExpiry d c) s = .next u)

/-- BURST_END, BLANK_END below the threshold and TEMPERATURE_READ (R26, R28, R29): the phase goes from BURST to BLANK when the
burst's cycles have passed (log entry 1), and from BLANK to LISTEN, timed from the blanking time on; a read of -55..125 becomes the
held temperature and leaves a flight alone. In BURST the container's transducer is driven with the burst length in cycles of its
carrier, each high for one half of its period, the first one (log entry 60, the model's choice), and no other transducer is driven.
That a temperature read is taken in every phase with power, STARTING and RESET_N low among them, is the model's reading (log entry
45). -/
def Obligations.MeasurementsPassTheirPhases : Prop :=
  (∀ (s : State) (d : Nat), s.inRun = true →
    let u := s.advance d
    ∀ m ∈ u.eu.inFlight,
      (m.phase = .burst → exec (.burstEnd d) s = .next
        { u with eu := { u.eu with inFlight := some { m with
          phase := .blank
          elapsed := max m.elapsed ((u.ccfg m.cont).burst * 1000 / [40, 48, 58, 70].getD (u.ccfg m.cont).carrier 70) } } }) ∧
      (m.phase = .blank → exec (.blankEnd d false) s = .next
        { u with eu := { u.eu with inFlight := some { m with phase := .listen, elapsed := max m.elapsed m.blanking } } }) ∧
      (∀ c : Col,
        let kHz := [40, 48, 58, 70].getD (u.ccfg c).carrier 70
        u.transducerHigh c = decide (m.phase = .burst ∧ m.cont = c ∧
          m.elapsed * kHz / 1000 < (u.ccfg c).burst ∧ m.elapsed * kHz % 1000 < 500)) ∧
      (m.phase ≠ .burst → exec (.burstEnd d) s = .next u) ∧
      (m.phase ≠ .blank → ∀ above : Bool, exec (.blankEnd d above) s = .next u) ∧
      (m.phase ≠ .listen → exec (.echoRise d) s = .next u ∧ exec (.listenEnd d) s = .next u)) ∧
  (∀ (s : State) (d : Nat) (value : Option Int), s.cl.powered = true →
    let u := s.advance d
    (∀ v ∈ value, -55 ≤ v → v ≤ 125 →
      exec (.temperatureRead d value) s = .next { u with eu := { u.eu with temperature := v } }) ∧
    (∀ v ∈ value, v < -55 ∨ 125 < v → exec (.temperatureRead d value) s = .next u) ∧
    (value = none → exec (.temperatureRead d value) s = .next u))

/-- The end of a measurement (R25, R29, R32 to R39): BLANK_END above the threshold is NEAR, ECHO_RISE an echo time, LISTEN_END
NO_ECHO. A failure counts; a valid reading joins the history, whose candidate is held back as suspect, accepted, or accepted as an
inferred emptying at the fourth. A changed class moves the container between IDLE and FULL, and FULL curtails a grant (R2, R11); an
acceptance or a third failure ends SETTLING (R16). An inferred emptying is recorded after the GRANT_END of a grant that its
acceptance ends (R39, R81). Then EU is free and serves the next flagged container at once (R25, R27). The opening time after a grant
is the model's choice (log entry 61). The order of the reports to NU and ACU within the event is the model's choice (log entry 66).
-/
def Obligations.MeasurementsEndInReadings : Prop :=
  ∀ (s : State) (d : Nat), s.inRun = true →
    let u := s.advance d
    let served := fun (v : State) =>
      if v.eu.inFlight.isSome then v
      else match ((List.range v.cfg.count).map fun k => (v.eu.pointer + 1 + k) % v.cfg.count).find? fun i =>
          (v.eu.cols.get (Fin.ofNat 4 i)).request with
        | none => v
        | some i =>
          let k : Col := Fin.ofNat 4 i
          let deg := max (-40) (min 85 v.eu.temperature)
          let c10 := (3313 + 6 * deg).toNat
          { v with
            eu := { v.eu with
              cols := v.eu.cols.set k { v.eu.cols.get k with request := false, periodic := ⟨0, true⟩ }
              pointer := k.val
              inFlight := some ⟨k, .burst, deg, c10, 5000000 / c10, 0⟩ }
            fe := v.fe.set k { v.fe.get k with nAtStart := (v.fe.get k).nd } }
    ∀ m ∈ u.eu.inFlight,
      let c := m.cont
      let f := u.fe.get c
      let x := u.cc.get c
      let k := u.ccfg c
      (x.drive = .release ↔ underGrant x) →
      let dist := m.elapsed * m.c10 / 20000
      let timed : Option Nat :=
        if k.dFloor + 200 < dist then none else if k.dFloor ≤ dist then some 0
        else some (min 1000 ((k.dFloor - dist) * 1000 / f.h))
      ∀ p ∈ [(Instr.blankEnd d true, decide (m.phase = .blank), some 1000),
          (Instr.listenEnd d, decide (m.phase = .listen), none),
          (Instr.echoRise d, decide (m.phase = .listen ∧ m.elapsed < 30000), timed)], p.2.1 = true →
        let byClass := fun (cls : FillClass) => if cls = .full then CcState.full else CcState.idle
        ∃ t, exec p.1 s = .next t ∧
          t = { u with
            cc := t.cc, eu := t.eu, fe := t.fe, au := t.au, sc := t.sc, dl := t.dl, lc := t.lc, nu := t.nu, acu := t.acu
            freeIndex := t.freeIndex } ∧
          (∀ e : Col, e ≠ c → t.cc.get e = u.cc.get e ∧
            t.fe.get e = { u.fe.get e with nAtStart := (t.fe.get e).nAtStart }) ∧
          t.eu = (served { u with eu := { u.eu with inFlight := none } }).eu ∧
          (∀ e : Col, (t.fe.get e).nAtStart =
            if t.eu.inFlight.any fun n => decide (n.cont = e) then (t.fe.get e).nd else (u.fe.get e).nAtStart) ∧
          (p.2.2 = none →
            t.fe.get c = { f with echoFail := min 255 (f.echoFail + 1), nAtStart := (t.fe.get c).nAtStart } ∧
            t.cc.get c = (if x.state = .settling then { x with
                settleFailures := x.settleFailures + 1
                state := if 3 ≤ x.settleFailures + 1 then byClass x.cls else .settling } else x) ∧
            t.acu.live.echoFails = min 65535 (u.acu.live.echoFails + 1) ∧ t.sc = u.sc ∧ t.dl = u.dl ∧
            t.au = u.au ∧
            (f.echoFail = 5 → t.level .echoFail c = true)) ∧
          (∀ r ∈ p.2.2,
            let history := (if 3 ≤ f.history.length then f.history.drop (f.history.length - 2) else f.history) ++ [r]
            let cand := candidate history
            let suspect := f.emptied = false ∧ f.unknown = false ∧ cand + 250 < f.pm
            let nd := f.nd - f.nAtStart
            let e := min 1000 (cand + nd * f.inc)
            let cls := nextClass f.cls e f.tNear k.tFull
            let inferred := suspect ∧ 4 ≤ f.suspect + 1
            t.level .echoFail c = false ∧
            (suspect → f.suspect + 1 < 4 →
              t.fe.get c = { f with
                echoFail := 0, history := history, suspect := f.suspect + 1, nAtStart := (t.fe.get c).nAtStart } ∧
              t.cc = u.cc ∧ t.sc = u.sc ∧ t.dl = u.dl ∧ t.au = u.au) ∧
            (¬suspect ∨ inferred →
              t.fe.get c = { f with
                echoFail := 0, history := history, suspect := 0, pm := cand, nd := nd, e := e, cls := cls
                unknown := false, emptied := false, nAtStart := (t.fe.get c).nAtStart } ∧
              t.cc.get c = (
                let y := { x with
                  cls := if cls = f.cls then x.cls else cls, depositsE := if inferred then nd else x.depositsE }
                if cls ≠ f.cls ∧ cls = .full ∧ x.state = .granted then { y with
                  state := if x.waitingRound.isSome then .held else .full
                  drive := .engage, confirm := ⟨0, decide (x.sense = .released ∧ x.drum = .closed)⟩
                  pendingEnd := none, opening := ⟨0, false⟩, waitingRound := none
                  roundId := if x.waitingRound.isSome then x.waitingRound else x.roundId
                  hold := if x.waitingRound.isSome then ⟨0, true⟩ else x.hold }
                else if cls ≠ f.cls ∧ cls = .full ∧ x.state = .depositing then
                  { y with pendingEnd := if x.pendingEnd.isSome then x.pendingEnd else some .curtailedFull }
                else if x.state = .settling then { y with state := byClass y.cls }
                else if cls ≠ f.cls ∧ x.state = .idle ∧ cls = .full then { y with state := .full }
                else if cls ≠ f.cls ∧ x.state = .full ∧ cls ≠ .full then { y with state := .idle }
                else y)) ∧
            let ends := x.state = .granted ∧ (¬suspect ∨ inferred) ∧ cls ≠ f.cls ∧ cls = .full
            (¬ends → t.au = u.au) ∧
            (¬suspect → ¬ends → t.sc = u.sc ∧ t.dl = u.dl) ∧
            (ends → ∀ g ∈ (u.au.get c).grant,
              let v := offerRecord c e (.grantEnd g.card g.done .curtailedFull) u
              let w := if inferred then offerRecord c e .inferredEmptied v else v
              t.au = u.au.set c (withIndication ⟨.endGrant, g.done, 0, none, some .curtailedFull⟩
                { u.au.get c with grant := none }) ∧
              t.sc = w.sc ∧ t.dl = w.dl) ∧
            (inferred → ¬ends →
              t.sc = (offerRecord c e .inferredEmptied u).sc ∧ t.dl = (offerRecord c e .inferredEmptied u).dl) ∧
            (inferred → u.cfg.masked.getLsbD 6 = false → t.acu.pending.getLsbD 6 = true))

/-- The candidate of a history (R36): of three readings the median, of two the larger, of one that reading; a single NEAR among
three does not move it. -/
def Obligations.CandidateIsTheMedian : Prop :=
  (∀ a b c : Nat, some (candidate [a, b, c]) = ([a, b, c].mergeSort (fun x y => decide (x ≤ y)))[1]?) ∧
  (∀ a b : Nat, candidate [a, b] = if a ≤ b then b else a) ∧
  (∀ a : Nat, candidate [a] = a) ∧ candidate [500, 510, 1000] = 510

/-- The class after a recomputation (R42), with T_near at least 50 below T_full: the table of R42, row by row. -/
def Obligations.ClassMovesThroughTheBands : Prop :=
  ∀ (before : FillClass) (e near full : Nat), near + 50 ≤ full →
    (full ≤ e → nextClass before e near full = .full) ∧
    (near ≤ e → e < full → before ≠ .full → nextClass before e near full = .near) ∧
    (near ≤ e → e < full → before = .full → nextClass before e near full = if full ≤ e + 30 then .full else .near) ∧
    (near ≤ e + 30 → e < near → nextClass before e near full = if before = .openClass then .openClass else .near) ∧
    (e + 30 < near → nextClass before e near full = .openClass)

/-! ## The store -/

/-- STORE_WRITE_COMPLETE (R57, R61, R65): the slot holds the image and every other byte of the store stands; STORE_WRITES counts;
the next write is the oldest staged record, else the oldest item of the queue; then the slots that CD holds are placed in the room
that gives, each with its way as it stands, the first of them being written at once when nothing else waited. Nothing else changes.
That it is taken in every phase with power is the model's reading (log entry 45). -/
def Obligations.StoreWritesLandAndContinue : Prop :=
  ∀ (s : State) (d : Nat), s.cl.powered = true → Memory.wf s.sc.store = true → ItemsFit s.sc →
    let u := s.advance d
    (s.sc.inFlight = none → exec (.storeWriteComplete d) s = .next u) ∧
    (∀ i ∈ s.sc.inFlight,
      let nothing := u.sc.staging = [] ∧ u.sc.queue = []
      let waiting := if u.sc.staging = [] then u.sc.queue.tail else u.sc.queue
      let free := if nothing then 17 else 16 - waiting.length
      let placed := waiting ++ (u.cd.held.take free).map fun slot =>
        StoreItem.mk (.dir slot) (((Sparse.get slot u.cd.image).map fun w => w.entry.image).getD (List.replicate 16 0))
      ∃ t, exec (.storeWriteComplete d) s = .next t ∧
        t = { count .storeWrites 1 u with
          cd := { u.cd with held := u.cd.held.drop free }
          sc := { u.sc with
            store := t.sc.store
            staging := u.sc.staging.tail
            queue := if nothing then placed.tail else placed
            inFlight := match u.sc.staging, u.sc.queue with
              | r :: _, _ => some ⟨.log (r.index % 1024), r.image⟩
              | [], q :: _ => some q
              | [], [] => placed.head? } } ∧
        readSlot t.sc.store i.slot = i.bytes ∧
        (∀ a : Nat, a < i.slot.address ∨ i.slot.address + i.slot.size ≤ a →
          Memory.read t.sc.store a = Memory.read s.sc.store a) ∧
        t.acu.live.storeWrites = min 65535 (u.acu.live.storeWrites + 1))

/-! ## The directory -/

/-- DIR_PUT (R51, R52, R53, R48): a present card's entry takes the carried fields and keeps its status and usage, with nothing
written when nothing differs; an absent card gets the lowest empty way of its bucket, with the status of its newest revocation
record; a full bucket raises STORE_FULL. DIR_DROP (R51, R54): a present card's way becomes empty at once and its empty image is
queued; an absent card is NOT_FOUND. A directed request is answered with the result; that the DIR_RESULT is offered after
STORE_FULL is the model's choice (log entry 66). -/
def Obligations.DirectoryRequestsAreAnswered : Prop :=
  (∀ (s : State) (d : Nat) (f : RxFrame), hears s f 0 → fromGateway f → isDirected s f ∨ isToAll f →
    let u := s.advance d
    let v := heard f u
    (f.payload.length ≠ 11 → exec (.dirPut d f) s = .next v) ∧
    (f.payload.length = 11 →
      let card : Word32 := BitVec.ofNat 32 (fieldAt f.payload 0 4)
      let entry : Bool → DirEntry := fun blocked => {
        card := card, household := BitVec.ofNat 20 (fieldAt f.payload 4 3), issue := byteAt f.payload 7, blocked := blocked
        mask := byteAt f.payload 8, capClass := Fin.ofNat 4 (byteAt f.payload 9).toNat
        assist := (byteAt f.payload 10).getLsbD 0 }
      let bucket := card.toNat % 256
      let status := ((newestRecord card v.ru).map RevRecord.block).getD false
      let put := fun (slot : Nat) (w : DirWay) =>
        placeItems [⟨.dir slot, w.entry.image⟩] { v with cd := { v.cd with image := Sparse.put slot w v.cd.image } }
      let result : Byte × State := match lookupCard card v with
        | some (slot, w) =>
          if entry w.entry.blocked = w.entry then (0, v)
          else if v.sc.queue.length < 16 then (0, put slot { w with entry := entry w.entry.blocked })
          else (2, v)
        | none =>
          match (List.range 8).find? fun i => (Sparse.get (bucket * 8 + i) v.cd.image).isNone with
          | none => (1, occur .storeFull 0 v)
          | some i => if v.sc.queue.length < 16 then (0, put (bucket * 8 + i) ⟨entry status, 0⟩) else (2, v)
      exec (.dirPut d f) s = .next (if isDirected s f then
        reply .dirResult f (f.payload.take 4 ++ [result.1]) result.2 else result.2))) ∧
  (∀ (s : State) (d : Nat) (f : RxFrame), hears s f 0 → fromGateway f → isDirected s f ∨ isToAll f → DirectoryLaw s.cd →
    let u := s.advance d
    let v := heard f u
    (f.payload.length ≠ 4 → exec (.dirDrop d f) s = .next v) ∧
    (f.payload.length = 4 →
      let card : Word32 := BitVec.ofNat 32 (fieldAt f.payload 0 4)
      let result : Byte × State := match lookupCard card v with
        | none => (3, v)
        | some (slot, _) =>
          if v.sc.queue.length < 16 then
            (0, placeItems [⟨.dir slot, List.replicate 16 0⟩]
              { v with cd := { v.cd with image := v.cd.image.filter fun p => p.2.entry.card ≠ card } })
          else (2, v)
      exec (.dirDrop d f) s = .next (if isDirected s f then
        reply .dirResult f (f.payload.take 4 ++ [result.1]) result.2 else result.2)))

/-! ## The revocation list -/

/-- REVOKE_PUSH (R55, R82, R91 to R93, R95, R96, R98): each record in its order, up to a malformed one, is a duplicate, the next, a
jump at the head of a gateway's push, or ahead. The next and a jump are applied when their group has room in the write queue, else a
pull is wanted as for an ahead record; and a push from the target ends the outstanding pull. Two clauses are the model's readings: a
jump ends a wanted pull whatever its W (log entry 53, R95 over R96), and a push ends the pull that was outstanding to its source
when it came, not one that its own records have sent (log entry 54, R98 being silent). -/
def Obligations.PushesApplyRecordsInOrder : Prop :=
  ∀ (s : State) (d : Nat) (f : RxFrame), hears s f 0 → fromStation f ∨ fromGateway f → isDirected s f ∨ isToAll f →
    let u := s.advance d
    let v := heard f u
    let n := (byteAt f.payload 1).toNat
    let fits := 2 ≤ f.payload.length ∧ n ≤ 8 ∧ f.payload.length = 2 + 9 * n
    let wanted : PullTarget := if fromGateway f then .best else .station f.src.toNat
    let items := fun (r : RevRecord) (w : State) =>
      (⟨.rev (r.seq % 64), r.image⟩ : StoreItem) :: match lookupCard r.card w with
        | some (slot, y) => [⟨.dir slot, ({ y.entry with blocked := r.block } : DirEntry).image⟩]
        | none => []
    let statusSet := fun (r : RevRecord) (w : State) => match lookupCard r.card w with
      | some (slot, y) =>
        { w with cd := { w.cd with image := Sparse.put slot { y with entry := { y.entry with blocked := r.block } } w.cd.image } }
      | none => w
    let applied := fun (r : RevRecord) (w : State) =>
      let y := count .revocationsApplied 1 (if r.block then blockCard r.card w else w)
      let z := if y.ru.gapMark.any fun g => decide (g ≤ r.seq) then lower .dirGap 0 { y with ru := { y.ru with gapMark := none } }
        else y
      if z.ru.wanted.any fun p => decide (p.2 ≤ r.seq) then { z with ru := { z.ru with wanted := none } } else z
    let next := fun (r : RevRecord) (w : State) =>
      let y := statusSet r (placeItems (items r w) w)
      applied r { y with ru := { y.ru with
        list := (if 64 ≤ y.ru.list.length then y.ru.list.tail else y.ru.list) ++ [r], mark := r.seq } }
    let jumped := fun (r : RevRecord) (w : State) =>
      let y := statusSet r (placeItems (⟨.rev 64, baseImage (r.seq - 1)⟩ :: items r w) w)
      let z := count .revocationsApplied 1 ((fun x => if r.block then blockCard r.card x else x)
        { y with ru := { y.ru with list := [r], base := r.seq - 1, mark := r.seq } })
      let q := lower .dirGap 0 { z with ru := { z.ru with gapMark := none } }
      { q with ru := { q.ru with wanted := none } }
    let take := fun (w : State) (p : Nat × RevRecord) =>
      let jump := p.1 = 0 ∧ (byteAt f.payload 0).getLsbD 0 = true ∧ fromGateway f
      let r := p.2
      if r.seq ≤ w.ru.mark then w
      else if jump then
        if w.sc.queue.length + (items r w).length + 1 ≤ 16 then jumped r w else wantPull wanted r.seq w
      else if r.seq = w.ru.mark + 1 ∧ w.sc.queue.length + (items r w).length ≤ 16 then next r w
      else wantPull wanted r.seq w
    let carried := (List.range n).map fun i =>
      ((⟨fieldAt f.payload (2 + 9 * i) 4, BitVec.ofNat 32 (fieldAt f.payload (6 + 9 * i) 4),
        decide (byteAt f.payload (10 + 9 * i) = 1)⟩ : RevRecord), byteAt f.payload (10 + 9 * i))
    let good := carried.takeWhile fun p => decide (p.1.seq ≠ 0 ∧ (p.2 = 1 ∨ p.2 = 2))
    let done := ((List.range good.length).zip (good.map Prod.fst)).foldl take v
    (¬fits → exec (.revokePush d f) s = .next v) ∧
    (fits → exec (.revokePush d f) s = .next (
      if v.ru.outstanding.any fun o => decide (o.target = f.src.toNat)
      then testPull { done with ru := { done.ru with outstanding := none } } else done))

/-- REVOKE_PULL (R99): served from the list as it stands with the records from f on, at most 8; with no records when f is above the
mark; with REVOKE_GAP when f is below the oldest. Nothing of RU changes. -/
def Obligations.PullsAreServedFromTheList : Prop :=
  ∀ (s : State) (d : Nat) (f : RxFrame), hears s f 0 → fromStation f → isDirected s f → RevocationLaw s.ru →
    let u := s.advance d
    let v := heard f u
    let from' := fieldAt f.payload 0 4
    let oldest := v.ru.mark - v.ru.list.length + 1
    (f.payload.length ≠ 4 → exec (.revokePull d f) s = .next v) ∧
    (f.payload.length = 4 → v.ru.mark < from' →
      exec (.revokePull d f) s = .next (reply .revokePush f [0, 0] v)) ∧
    (f.payload.length = 4 → from' ≤ v.ru.mark → from' < oldest →
      exec (.revokePull d f) s = .next (reply .revokeGap f (be32 oldest ++ be32 v.ru.mark) v)) ∧
    (f.payload.length = 4 → from' ≤ v.ru.mark → oldest ≤ from' →
      let records := v.ru.list.filter fun r => decide (from' ≤ r.seq ∧ r.seq ≤ from' + 7)
      exec (.revokePull d f) s = .next (reply .revokePush f
        ([0, BitVec.ofNat 8 (min 8 (v.ru.mark - from' + 1))] ++ records.flatMap fun r =>
          be32 r.seq ++ be32 r.card.toNat ++ [if r.block then 1 else 2]) v))

/-- The send test (R97) and what makes it (R98, R100): REVOKE_GAP from the target of the outstanding pull notes the gap and ends the
pull, from another source nothing; the outstanding timer ends it; the holdoff reaches 10 s. A wanted pull then goes, when none is
outstanding and the holdoff stands at 10 s, to its station or to the neighbour of the highest mark above the own. -/
def Obligations.PullsGoWhenTheTestPasses : Prop :=
  (∀ s : State, NeighbourLaw s →
    let sent := fun (a : Nat) =>
      let t := offer { kind := .revokePull, dest := BitVec.ofNat 8 a, tag := 0, payload := be32 (s.ru.mark + 1), cls := 2
                       arrival := 0, attempts := 0, deadline := none, departure := false, backoff := none } s
      { t with ru := { s.ru with wanted := none, outstanding := some ⟨a, ⟨0, true⟩⟩, holdoff := ⟨0, true⟩ } }
    let above := s.nu.table.filter fun n => decide (s.ru.mark < n.mark)
    (s.ru.wanted = none ∨ s.ru.outstanding.isSome = true ∨ s.ru.holdoff.us < 10000000 → testPull s = s) ∧
    (s.ru.outstanding = none → 10000000 ≤ s.ru.holdoff.us → ∀ p ∈ s.ru.wanted,
      (∀ a, p.1 = .station a → testPull s = sent a) ∧
      (p.1 = .best → above = [] → testPull s = s) ∧
      (p.1 = .best → above ≠ [] → ∃ n ∈ above, testPull s = sent n.address ∧
        ∀ m ∈ above, m.mark < n.mark ∨ (m.mark = n.mark ∧ n.address ≤ m.address))) ∧
    (∀ target w, wantPull target w s = testPull { s with ru := { s.ru with wanted := some (target, w) } })) ∧
  (∀ (s : State) (d : Nat) (f : RxFrame), hears s f 0 → fromStation f → isDirected s f →
    let v := heard f (s.advance d)
    let own := f.payload.length = 8 ∧ ∃ o ∈ v.ru.outstanding, o.target = f.src.toNat
    let g := fieldAt f.payload 4 4
    (¬own → exec (.revokeGap d f) s = .next v) ∧
    (own → v.ru.mark < g → exec (.revokeGap d f) s = .next
      (let w := raise .dirGap 0 v
       testPull { w with ru := { w.ru with outstanding := none, gapMark := some (max g (v.ru.gapMark.getD 0)) } })) ∧
    (own → g ≤ v.ru.mark → exec (.revokeGap d f) s = .next
      (testPull { v with ru := { v.ru with outstanding := none } }))) ∧
  (∀ (s : State) (d : Nat), s.inRun = true →
    let u := s.advance d
    (u.ru.outstanding.isSome = true → exec (.pullOutstandingTimeout d) s = .next
      (testPull { u with ru := { u.ru with outstanding := none } })) ∧
    (u.ru.outstanding = none → exec (.pullOutstandingTimeout d) s = .next u) ∧
    (u.ru.holdoff.running = true → exec (.pullHoldoffExpiry d) s = .next
      (testPull { u with ru := { u.ru with holdoff := ⟨10000000, false⟩ } })) ∧
    (u.ru.holdoff.running = false → exec (.pullHoldoffExpiry d) s = .next u))

/-! ## Time and beacons -/

/-- TIME (R135, R138): the clock takes the value, earlier or later, hops 0, the hop-aging timer from 0, and the period index is
evaluated at once, never moved back; a greater one zeroes every usage counter. No answer is sent. -/
def Obligations.TimeSetsTheClock : Prop :=
  ∀ (s : State) (d : Nat) (f : RxFrame), hears s f 0 → fromGateway f → isDirected s f ∨ isToAll f →
    let u := s.advance d
    let v := heard f u
    let clock := fieldAt f.payload 0 4
    let period := clock / (u.cfg.periodDays * 86400)
    (f.payload.length ≠ 4 → exec (.timeFrame d f) s = .next v) ∧
    (f.payload.length = 4 → exec (.timeFrame d f) s = .next { v with
      tu := { clock := BitVec.ofNat 32 clock, hops := 0, period := max u.tu.period period, aging := ⟨0, true⟩ }
      cd := if u.tu.period < period then
          { u.cd with image := u.cd.image.map fun p => (p.1, { p.2 with usage := 0 }) } else u.cd })

/-- CLOCK_SECOND and HOP_AGING_EXPIRY (R134, R137, R138): the clock counts in every phase and wraps; in RUN a set clock's period
index is computed, and a greater one zeroes every usage counter; six hours without a time source add a hop, to 14 at most. That the
clock counts in every phase with power, a second without power being none (log entry 45), and that at hops 14 the aging timer
restarts from 0 at its expiry (log entry 38) are the model's readings. -/
def Obligations.TheClockCountsAndAges : Prop :=
  (∀ (s : State) (d : Nat), s.cl.powered = true →
    let u := s.advance d
    let clock := u.tu.clock + 1
    let period := clock.toNat / (u.cfg.periodDays * 86400)
    let rolls := s.inRun = true ∧ u.tu.hops ≠ 15 ∧ u.tu.period < period
    exec (.clockSecond d) s = .next { u with
      tu := { u.tu with clock := clock, period := if rolls then period else u.tu.period }
      cd := if rolls then { u.cd with image := u.cd.image.map fun p => (p.1, { p.2 with usage := 0 }) } else u.cd }) ∧
  (∀ (s : State) (d : Nat), s.inRun = true →
    let u := s.advance d
    (u.tu.hops ≠ 15 → u.tu.aging.running = true → exec (.hopAgingExpiry d) s = .next
      { u with tu := { u.tu with hops := if u.tu.hops < 14 then u.tu.hops + 1 else 14, aging := ⟨0, true⟩ } }) ∧
    (u.tu.hops = 15 ∨ u.tu.aging.running = false → exec (.hopAgingExpiry d) s = .next u))

/-- BEACON (R96, R108, R129 to R131, R133, R136): at any DEST a well-formed beacon of a station updates its entry or creates one,
evicting the oldest unranked entry of a full table; the beacons missed are counted; a clock nearer to a gateway is adopted; and a
mark above the own wants a pull, whose frame is offered when the send test passes. The difference of two clocks taken without a wrap
(log entry 27), and the hops byte and the summary codes kept as they came (log entry 15), are the model's readings. -/
def Obligations.BeaconsKeepTheTable : Prop :=
  ∀ (s : State) (d : Nat) (f : RxFrame), hears s f 0 → fromStation f → NeighbourLaw s → s.tu.hops ≤ 15 →
    let u := s.advance d
    let v := heard f u
    let b := f.payload
    let a := f.src.toNat
    let count' := (byteAt b 12).toNat
    let fits := 1 ≤ count' ∧ count' ≤ 4 ∧ b.length = 13 + 5 * count'
    let entry : Neighbour := {
      address := a, lastSeq := byteAt b 1, age := 0, margin := f.margin
      streak := if f.margin = 7 then 1 else 0, marginal := false
      summaries := (List.range count').map fun i => {
        fraction := (byteAt b (13 + 5 * i)).extractLsb' 0 3, group := (byteAt b (13 + 5 * i)).extractLsb' 3 3
        cls := (byteAt b (13 + 5 * i)).extractLsb' 6 2, fillPercent := byteAt b (14 + 5 * i)
        unknown := (byteAt b (15 + 5 * i)).getLsbD 0 }
      mark := fieldAt b 7 4, hops := (byteAt b 6).toNat, alarms := (byteAt b 11).getLsbD 0
      rank := (u.cfg.prefs.find? fun p => decide (p.address = a)).map Preference.rank }
    let held := u.nu.table.find? fun n => decide (n.address = a)
    let clock : Word32 := BitVec.ofNat 32 (fieldAt b 2 4)
    let hops := (byteAt b 6).toNat
    let apart := u.tu.clock.toNat + 2 < clock.toNat ∨ clock.toNat + 2 < u.tu.clock.toNat
    let adopted := hops + 1 < u.tu.hops
    let newClock := if adopted ∧ (u.tu.hops = 15 ∨ apart) then clock else u.tu.clock
    let period := newClock.toNat / (u.cfg.periodDays * 86400)
    (¬fits → exec (.beacon d f) s = .next v) ∧
    (fits → ∃ t, exec (.beacon d f) s = .next t ∧
      (let w := match held with
        | some n => count .beaconsMissed (let missed := (byteAt b 1 - n.lastSeq - 1).toNat; if missed < 128 then missed else 0) v
        | none => v
       let x := { w with nu := { v.nu with table := t.nu.table }, tu := t.tu, cd := t.cd }
       let pull : TxFrame := {
         kind := .revokePull, dest := BitVec.ofNat 8 a, tag := 0, payload := be32 (u.ru.mark + 1), cls := 2, arrival := 0
         attempts := 0, deadline := none, departure := false, backoff := none }
       let sends := u.ru.mark < fieldAt b 7 4 ∧ u.ru.outstanding = none ∧ 10000000 ≤ u.ru.holdoff.us
       t = { (if sends then offer pull x else x) with ru := t.ru }) ∧
      (∀ n ∈ held,
        let missed := (byteAt b 1 - n.lastSeq - 1).toNat
        let streak := if f.margin = 7 then min 3 (n.streak + 1) else 0
        t.nu.table = u.nu.table.map (fun m => if m.address = a then { entry with
          rank := n.rank, streak := streak
          marginal := decide (f.margin = 7 ∧ (n.marginal = true ∨ streak = 3)) } else m) ∧
        t.acu.live.beaconsMissed = min 65535 (v.acu.live.beaconsMissed + if missed < 128 then missed else 0)) ∧
      (held = none → t.acu.live.beaconsMissed = v.acu.live.beaconsMissed) ∧
      (held = none → u.nu.table.length < 16 →
        t.nu.table = u.nu.table.takeWhile (fun m => m.address < a) ++ entry :: u.nu.table.dropWhile (fun m => m.address < a)) ∧
      (held = none → u.nu.table.length = 16 → ∀ n ∈ u.nu.table, n.rank = none →
        (∀ m ∈ u.nu.table, m.rank = none → m.age < n.age ∨ (m.age = n.age ∧ n.address ≤ m.address)) →
        let rest := u.nu.table.filter fun m => m.address ≠ n.address
        t.nu.table = rest.takeWhile (fun m => m.address < a) ++ entry :: rest.dropWhile (fun m => m.address < a)) ∧
      t.tu = (if adopted then
        { clock := newClock, hops := hops + 1, period := max u.tu.period period, aging := ⟨0, true⟩ } else u.tu) ∧
      t.cd = (if adopted ∧ u.tu.period < period then
        { u.cd with image := u.cd.image.map fun p => (p.1, { p.2 with usage := 0 }) } else u.cd) ∧
      t.ru = (if fieldAt b 7 4 ≤ u.ru.mark then u.ru
        else if u.ru.outstanding = none ∧ 10000000 ≤ u.ru.holdoff.us then
          { u.ru with wanted := none, outstanding := some ⟨a, ⟨0, true⟩⟩, holdoff := ⟨0, true⟩ }
        else { u.ru with wanted := some (.station a, fieldAt b 7 4) }))

/-- The beacon timers and the age of the neighbours (R126, R127, R132; the jitter is a free value, log entry 2): at each offer, met
when a BEACON is queued, the periodic timer takes the interval and up to a quarter of it; a summary change waits for the holdoff;
an entry older than ten intervals goes. That a change waits while the holdoff timer runs, R127 testing its value, is the model's
reading (log entry 31). -/
def Obligations.BeaconTimersAndAges : Prop :=
  ∀ (s : State) (d : Nat), s.inRun = true →
    let u := s.advance d
    let frame : TxFrame := {
      kind := .beacon, dest := 63, tag := 0, payload := [], cls := 2, arrival := 0, attempts := 0, deadline := none
      departure := false, backoff := none }
    let offered := fun (v t : State) =>
      let w := if ∃ g ∈ v.lc.queue, g.kind = .beacon then v else offer frame v
      t = { w with nu := { v.nu with periodicLeft := t.nu.periodicLeft }, freeIndex := v.freeIndex + 1 } ∧
      ∃ j ≤ v.cfg.beaconInterval * 25 / 100, t.nu.periodicLeft = (v.cfg.beaconInterval + j) * 1000000
    let stopped := { u with nu := { u.nu with holdoff := ⟨5000000, false⟩, early := false } }
    (∃ t, exec (.beaconPeriodicTimerExpiry d) s = .next t ∧ offered u t) ∧
    (u.nu.holdoff.running = true → u.nu.early = true → ∃ t, exec (.beaconHoldoffExpiry d) s = .next t ∧ offered stopped t) ∧
    (u.nu.holdoff.running = true → u.nu.early = false → exec (.beaconHoldoffExpiry d) s = .next stopped) ∧
    (u.nu.holdoff.running = false → exec (.beaconHoldoffExpiry d) s = .next u) ∧
    (u.nu.holdoff.running = true → summaryChange u = { u with nu := { u.nu with early := true } }) ∧
    (u.nu.holdoff.running = false → offered u (summaryChange u)) ∧
    exec (.neighbourAgeTick d) s = .next { u with nu := { u.nu with
      table := (u.nu.table.filter fun n => decide (n.age + 1 ≤ 10 * u.cfg.beaconInterval)).map fun n =>
        { n with age := n.age + 1 } } }

/-! ## Rounds -/

/-- ROLLCALL, its slot and the close of its window (R121 to R123, R141, R142): a broadcast roll-call opens a window of 3568 bit
times and suspends access; at the slot time the containers that qualify are named in a slot reply; at the close the head takes
access in GAP, and enters BACKOFF at once when its gap has passed. These clauses are the model's readings: a ROLLCALL of another LEN
opens the window and leaves the roll-call in hand (log entry 26), the window begins at 20 bit times, 12500 units (43), and a gap
passed at the close is taken at once (23). -/
def Obligations.RollcallsNameTheContainers : Prop :=
  (∀ (s : State) (d : Nat) (f : RxFrame), hears s f 0 → fromVehicle f ∨ fromGateway f → isToAll f → ¬isDirected s f →
    let v := heard f (s.advance d)
    let requester := (byteAt f.payload 2).toNat
    exec (.rollcall d f) s = .next { v with
      lc := { v.lc with
        window := some ⟨12500, if v.cfg.ownAddress = 0 then none else some (48 + (v.cfg.ownAddress - 1) * 64), false⟩
        phase := if v.lc.phase = .gap ∨ v.lc.phase = .backoff then .suspended else v.lc.phase }
      rr := if f.payload.length ≠ 3 then v.rr
        else if 56 ≤ requester ∧ requester ≤ 62 then some ⟨byteAt f.payload 0, (byteAt f.payload 1).toNat⟩ else none }) ∧
  (∀ (s : State) (d : Nat), s.inRun = true →
    let u := s.advance d
    (∀ w ∈ u.lc.window, ∀ slot ∈ w.slotTime, w.slotPassed = false →
      let named := fun (r : Rollcall) (c : Col) => decide (c.val < u.cl.image.count ∧
        ((u.cc.get c).state = .idle ∨ (u.cc.get c).state = .granted ∨ (u.cc.get c).state = .depositing ∨
          (u.cc.get c).state = .full) ∧
        (u.fe.get c).unknown = false ∧ r.mask.getLsbD (u.ccfg c).fraction = true ∧ r.threshold * 10 ≤ (u.fe.get c).e)
      let flags := fun (r : Rollcall) => (if named r 0 then 1 else 0) + (if named r 1 then 2 else 0) +
        (if named r 2 then 4 else 0) + (if named r 3 then 8 else 0)
      let passed := { u.lc with
        window := some { w with slotPassed := true, elapsed := max w.elapsed (slot * 625) } }
      let bytes := fun (r : Rollcall) => [BitVec.ofNat 8 u.cfg.ownAddress, BitVec.ofNat 8 (flags r)]
      exec (.rollcallSlotTime d) s = .next { u with
        lc := if u.rr.any fun r => decide (flags r ≠ 0) then
            { passed with
              lineOut := (u.rr.map fun r => 0x7E :: bytes r ++ [crc8 0 (bytes r)]).getD [], ownSlot := 25000, idle := 0 }
          else passed
        rr := none }) ∧
    (u.lc.window = none ∨ (∃ w ∈ u.lc.window, w.slotTime = none ∨ w.slotPassed = true) →
      exec (.rollcallSlotTime d) s = .next u) ∧
    (u.lc.window.isSome = true →
      let head := u.lc.queue.head?
      let back := u.lc.phase = .suspended ∨ u.lc.phase = .idle
      let closed := { u with lc := { u.lc with
        window := none
        access := if back then head.map TxFrame.arrival else u.lc.access
        phase := if back then (if head.isSome then .gap else .idle) else u.lc.phase } }
      (u.lc.phase = .sending ∨ u.lc.busy = true ∨ (∀ g ∈ u.lc.queue, u.lc.idle <
        (if g.cls = 0 then 24 else if g.cls = 1 then 48 else 72) * 625) →
        exec (.rollcallWindowClose d) s = .next closed) ∧
      (back → u.lc.busy = false → ∀ g ∈ head, QueueOrdered u.lc →
        (if g.cls = 0 then 24 else if g.cls = 1 then 48 else 72) * 625 ≤ u.lc.idle →
        exec (.rollcallWindowClose d) s = exec (.classGapReached 0) closed)) ∧
    (u.lc.window = none → exec (.rollcallWindowClose d) s = .next u))

/-- CLAIM (R17, R144 to R146): the first case of R145's table decides, CC acts on a claim it grants or makes wait, and the
CLAIM_REPLY gives the container as that leaves it. RELEASE (R17, R149): the hold of the same round ends, the container going to IDLE
or FULL by class; any other is NOT_HELD.
The order of the reports to NU and ACU within the event is the model's choice (log entry 66). -/
def Obligations.ClaimsAndReleasesFollowTheTable : Prop :=
  (∀ (s : State) (d : Nat) (f : RxFrame), hears s f 0 → fromVehicle f → isDirected s f → s.cfg.count ≤ 4 →
    (∀ c : Col, (s.cc.get c).drive = .release ↔ underGrant (s.cc.get c)) →
    let v := heard f (s.advance d)
    let index := (byteAt f.payload 0).toNat
    let c : Col := Fin.ofNat 4 index
    let round : Word16 := BitVec.ofNat 16 (fieldAt f.payload 1 2)
    let x := v.cc.get c
    let answered := fun (result cause : Byte) (t : State) => reply .claimReply f
      (f.payload.take 3 ++ [result, cause, BitVec.ofNat 8 (t.cc.get c).state.code, BitVec.ofNat 8 ((t.fe.get c).e / 10)]) t
    let set := fun (y : Cc) => { v with cc := v.cc.set c y }
    (f.payload.length ≠ 3 → exec (.claim d f) s = .next v) ∧
    (f.payload.length = 3 → exec (.claim d f) s = .next (
      if s.cfg.count ≤ index then reply .claimReply f (f.payload.take 3 ++ [3, 1, 0xFF, 0]) v
      else if round = 0 then answered 3 2 v
      else match x.state with
        | .fault => answered 3 3 v
        | .settling => answered 2 0 v
        | .idle | .full =>
          if x.state = .idle ∧ x.lastEmptied = some round then answered 2 0 v
          else answered 0 0 (summaryChange (set { x with
            state := .held, roundId := some round, waitingRound := none, hold := ⟨0, true⟩ }))
        | .granted => (match x.waitingRound with
          | none => answered 0 0 (endGrant c .curtailedClaim (set { x with waitingRound := some round }))
          | some w => if w = round then answered 1 0 v else answered 3 4 v)
        | .depositing => (match x.waitingRound with
          | none => answered 1 0 (set { x with
              waitingRound := some round
              pendingEnd := if x.pendingEnd.isSome then x.pendingEnd else some .curtailedClaim })
          | some w => if w = round then answered 1 0 v else answered 3 4 v)
        | .held => if x.roundId = some round then answered 0 0 v else answered 3 4 v
        | .lifted | .missing => if x.roundId = some round then answered 0 0 v else answered 3 5 v))) ∧
  (∀ (s : State) (d : Nat) (f : RxFrame), hears s f 0 → fromVehicle f → isDirected s f → s.cfg.count ≤ 4 →
    (∀ c : Col, (s.cc.get c).drive = .release ↔ underGrant (s.cc.get c)) →
    let v := heard f (s.advance d)
    let index := (byteAt f.payload 0).toNat
    let c : Col := Fin.ofNat 4 index
    let round : Word16 := BitVec.ofNat 16 (fieldAt f.payload 1 2)
    let x := v.cc.get c
    let answered := fun (result cause : Byte) (t : State) => reply .claimReply f
      (f.payload.take 3 ++ [result, cause, BitVec.ofNat 8 (t.cc.get c).state.code, BitVec.ofNat 8 ((t.fe.get c).e / 10)]) t
    (f.payload.length ≠ 3 → exec (.release d f) s = .next v) ∧
    (f.payload.length = 3 → exec (.release d f) s = .next (
      if s.cfg.count ≤ index then reply .claimReply f (f.payload.take 3 ++ [3, 1, 0xFF, 0]) v
      else if x.state = .held ∧ x.roundId = some round then
        answered 0 0 (summaryChange { v with cc := v.cc.set c { x with
          state := if x.cls = .full then .full else .idle, roundId := none, hold := ⟨x.hold.us, false⟩ } })
      else answered 3 6 v)))

/-! ## The gateway's requests -/

/-- The queries of the station's own state (R173 to R178): the reply to each carries its subject, DONE and the content of Table 12-3
as it stands when the query is taken; ALARMS then empties the pending set and the latch stamp, and the others change nothing. That
ALARMS empties the set before its reply is offered (log entry 41), and that a number wider than its field is sent as its low bits, the
report timer's 32 among them (log entries 29 and 30), are the model's readings. -/
def Obligations.QueriesReportTheStation : Prop :=
  ∀ (s : State) (d : Nat) (f : RxFrame), hears s f 1 → fromGateway f → isDirected s f →
    let v := heard f (s.advance d)
    let n8 := fun (n : Nat) => (BitVec.ofNat 8 n : Byte)
    let bit := fun (i : Nat) (b : Bool) => if b then 2 ^ i else 0
    let inUse := cols.filter fun c => decide (c.val < v.cl.image.count)
    let round := fun (r : Option Word16) => be16 ((r.map BitVec.toNat).getD 0)
    let positions := (List.range 32).map fun p =>
      n8 (bit 0 (v.acu.pending.getLsbD p) + bit 1 (v.acu.levels.getLsbD p))
    let latch := (match v.acu.latch with
      | some clock => 1 :: be32 clock.toNat
      | none => [0, 0, 0, 0, 0] : List Byte)
    let container := fun (c : Col) =>
      let x := v.cc.get c
      let e := v.fe.get c
      [n8 x.state.code, n8 (bit 0 e.unknown + bit 1 e.emptied + bit 2 x.roundId.isNone + bit 3 x.lastEmptied.isNone)] ++
        round x.roundId ++ round x.lastEmptied ++ be16 x.depositsE ++ [n8 e.cls.code] ++ be16 e.e ++ be16 e.pm ++
        [n8 e.nd, n8 e.echoFail, n8 (bit 0 (v.level .echoFail c) + bit 1 (v.level .lockFault c) + bit 2 (v.level .drumHeld c) +
          bit 3 (v.level .containerMissing c) + bit 4 (v.level .unclaimedLift c))]
    let k := v.acu.copies
    let from' := (byteAt f.payload 0).toNat
    let entries := (v.nu.table.drop from').take 4
    let entry := fun (n : Neighbour) =>
      [n8 n.address, n.lastSeq] ++ be16 n.age ++
        [n8 (n.margin.val + bit 3 n.marginal + bit 4 n.alarms), (n.rank.map n8).getD 0xFF] ++ be32 n.mark ++
        [n8 n.hops, n8 n.summaries.length] ++
        n.summaries.flatMap fun y => [n8 (y.group.toNat + 8 * y.cls.toNat), y.fillPercent]
    let status :=
      [n8 v.cfg.ownAddress, n8 v.cfg.count] ++ be32 v.tu.clock.toNat ++ [n8 v.tu.hops] ++ be32 v.tu.period ++
        be32 v.ru.mark ++ be32 (v.ru.mark + 1 - v.ru.list.length) ++ [n8 v.ru.list.length,
        n8 (bit 0 (v.level .dirGap 0) + bit 1 v.ru.gapMark.isSome + bit 2 v.cfg.auto + bit 3 v.cl.clamped)] ++
        be32 (v.ru.gapMark.getD 0) ++ be16 v.cd.image.length ++ [n8 v.sc.queue.length, n8 v.sc.staging.length] ++
        be32 v.dl.oldest ++ be32 v.dl.next ++
        [n8 v.lc.queue.length, n8 v.lc.margin.val, v.nu.seq, n8 v.nu.table.length] ++ be32 (v.acu.report.us / 1000000)
    let done := fun (subject : Byte) (content : List Byte) (t : State) => reply .queryReply f ([subject, 0] ++ content) t
    let misfit := fun (subject : Byte) => reply .queryReply f [subject, 6] v
    (f.payload = [] →
      exec (.queryAlarms d f) s = .next (done 1 ([n8 v.cfg.count] ++ positions ++ latch)
        { v with acu := { v.acu with pending := 0, latch := none } }) ∧
      exec (.queryCounters d f) s = .next (done 2
        (([k.cardsPresented, k.grants, k.refusals, k.redirects, k.framesRxOk, k.framesRxBad, k.framesTx, k.collisions,
            k.txAbandoned, k.repliesLate, k.beaconsMissed, k.echoFails, k.logLost, k.storeWrites, k.revocationsApplied,
            k.claimLapsed, k.deposits.get 0, k.deposits.get 1, k.deposits.get 2, k.deposits.get 3].flatMap be16) ++
          be32 v.acu.stampClock.toNat ++ [n8 v.acu.stampHops]) v) ∧
      exec (.queryContainers d f) s = .next (done 3 ([n8 v.cfg.count] ++ inUse.flatMap container) v) ∧
      exec (.queryStatus d f) s = .next (done 5 status v)) ∧
    (f.payload.length = 1 → exec (.queryNeighbours d f) s = .next
      (done 4 ([n8 v.nu.table.length, n8 entries.length] ++ entries.flatMap entry) v)) ∧
    (f.payload ≠ [] →
      exec (.queryAlarms d f) s = .next (misfit 1) ∧ exec (.queryCounters d f) s = .next (misfit 2) ∧
      exec (.queryContainers d f) s = .next (misfit 3) ∧ exec (.queryStatus d f) s = .next (misfit 5)) ∧
    (f.payload.length ≠ 1 → exec (.queryNeighbours d f) s = .next (misfit 4))

/-- The queries of the directory and the log, and of no subject (R161, R162, R173, R179): a card's entry with its slot and usage or
NOT_FOUND; the records from the first index that is held, at most four, each as staged, being written or stored, a damaged one as
NONE; BAD_SUBJECT for an unknown subject (and subject 0 with BAD_REQUEST for an empty QUERY, the model's choice, log entry 20). A log slot
with an undefined end reason or cause counts as damaged (log entry 56, the model's reading), and a record is served with its bytes as
they are stored, absent ones included (log entry 67, the model's choice). -/
def Obligations.QueriesReadTheDirectoryAndLog : Prop :=
  (∀ (s : State) (d : Nat) (f : RxFrame), hears s f 1 → fromGateway f → isDirected s f →
    let v := heard f (s.advance d)
    let n8 := fun (n : Nat) => (BitVec.ofNat 8 n : Byte)
    let card : Word32 := BitVec.ofNat 32 (fieldAt f.payload 0 4)
    let from' := fieldAt f.payload 0 4
    let maximum := max 1 (min 4 (byteAt f.payload 4).toNat)
    let first := max v.dl.oldest from'
    let served := min maximum (v.dl.next - first)
    let remaining := if served = 0 then 0 else v.dl.next - (first + served)
    let slotImage := fun (i : Nat) =>
      let staged := (v.sc.staging.filter fun r => decide (r.index % 1024 = i % 1024)).getLast?
      let queued := (v.sc.queue.filter fun q => decide (q.slot = .log (i % 1024))).getLast?
      match queued, staged, v.sc.inFlight.filter fun q => decide (q.slot = .log (i % 1024)) with
      | some q, _, _ => q.bytes
      | none, some r, _ => r.image
      | none, none, some q => q.bytes
      | none, none, none => readSlot v.sc.store (.log (i % 1024))
    let record := fun (i : Nat) => if parseLogIndex (slotImage i) = some i then ((slotImage i).drop 1).take 20
      else be32 i ++ [0, 0, 0, 0, 0xF0] ++ List.replicate 11 0
    (f.payload.length = 4 → exec (.queryDirGet d f) s = .next (match lookupCard card v with
      | some (slot, w) => reply .queryReply f ([6, 0] ++ be32 w.entry.card.toNat ++ be16 slot ++ be24 w.entry.household.toNat ++
          [w.entry.issue, if w.entry.blocked then 1 else 0, w.entry.mask, n8 w.entry.capClass.val,
            if w.entry.assist then 1 else 0, n8 w.usage]) v
      | none => reply .queryReply f ([6, 3] ++ be32 card.toNat) v)) ∧
    (f.payload.length = 5 → exec (.queryLog d f) s = .next (reply .queryReply f ([7, 0] ++ be32 v.dl.oldest ++ be32 v.dl.next ++
      be32 remaining ++ [if from' < v.dl.oldest then 1 else 0, n8 served] ++
      ((List.range served).map fun j => first + j).flatMap record) v)) ∧
    (f.payload.length ≠ 4 → exec (.queryDirGet d f) s = .next (reply .queryReply f [6, 6] v)) ∧
    (f.payload.length ≠ 5 → exec (.queryLog d f) s = .next (reply .queryReply f [7, 6] v))) ∧
  (∀ (s : State) (d : Nat) (f : RxFrame), hears s f 0 → fromGateway f → isDirected s f →
    let v := heard f (s.advance d)
    (f.payload = [] → exec (.queryBadSubject d f) s = .next (reply .queryReply f [0, 6] v)) ∧
    (∀ b ∈ f.payload.head?, b = 0 ∨ 7 < b.toNat →
      exec (.queryBadSubject d f) s = .next (reply .queryReply f [b, 5] v)))

/-- SNAPSHOT (R171, R180): every report copy takes its live counter, every live counter becomes 0, the stamp takes the clock and
hops, the report timer restarts in AUTO, and the REPLY carries the stamp just set; nothing else of ACU changes. -/
def Obligations.SnapshotsMoveTheCounters : Prop :=
  ∀ (s : State) (d : Nat) (f : RxFrame), hears s f 0 → fromGateway f → isDirected s f →
    let v := heard f (s.advance d)
    (f.payload = [] → exec (.snapshot d f) s = .next (reply .reply f
      ([0x0F, 0] ++ be32 v.tu.clock.toNat ++ [BitVec.ofNat 8 v.tu.hops])
      { v with acu := { v.acu with
        copies := v.acu.live
        live := ⟨0, 0, 0, 0, 0, 0, 0, 0, 0, 0, 0, 0, 0, 0, 0, 0, ⟨0, 0, 0, 0⟩⟩
        stampClock := v.tu.clock, stampHops := v.tu.hops
        report := if v.cfg.auto then ⟨0, true⟩ else v.acu.report } })) ∧
    (f.payload ≠ [] → exec (.snapshot d f) s = .next v)

/-- RESTART and REPORT_TIMER_EXPIRY (R172, R181): a RESTART is answered DONE, and the first asks for the departure of its reply, at
which the station takes the warm reset that RESET_N driven low and back high would give, at once when the reply is dropped; the
report timer makes a snapshot in AUTO. That a dropped reply counts as departed in the same step (log entry 47), and that its deadline
begins at 20 bit times, 12500 units (log entry 43), are the model's readings. -/
def Obligations.RestartsFollowTheirReply : Prop :=
  (∀ (s : State) (d : Nat) (f : RxFrame), hears s f 0 → fromGateway f → isDirected s f → s.cl.resetLow = false →
    let v := heard f (s.advance d)
    let waits := fun (h : TxFrame) => h.cls = 2 ∧ ¬(v.lc.phase = .sending ∧ v.lc.access = some h.arrival)
    let dropped := 8 ≤ v.lc.queue.length ∧ ∀ h ∈ v.lc.queue, ¬waits h
    let w := offer { kind := .reply, dest := f.src, tag := f.tag, payload := [0x10, 0], cls := 0, arrival := 0, attempts := 0,
                     deadline := some 12500, departure := true, backoff := none } { v with restartPromised := true }
    (f.payload ≠ [] → exec (.restart d f) s = .next v) ∧
    (f.payload = [] → v.restartPromised = true → exec (.restart d f) s = .next (reply .reply f [0x10, 0] v)) ∧
    (f.payload = [] → v.restartPromised = false → ¬dropped → exec (.restart d f) s = .next w) ∧
    (f.payload = [] → v.restartPromised = false → dropped →
      ∃ a, exec (.resetNLow 0) w = .next a ∧ exec (.restart d f) s = exec (.resetNHigh 0) a)) ∧
  (∀ (s : State) (d : Nat), s.inRun = true →
    let u := s.advance d
    (s.cfg.auto = true → u.acu.report.running = true → exec (.reportTimerExpiry d) s = .next { u with acu := { u.acu with
      copies := u.acu.live, live := .zero, stampClock := u.tu.clock, stampHops := u.tu.hops, report := ⟨0, true⟩ } }) ∧
    (s.cfg.auto = false ∨ u.acu.report.running = false → exec (.reportTimerExpiry d) s = .next u))

/-! ## The street line -/

/-- FRAME_NOT_DISPATCHED (R107 to R111): the checks on the bytes of a frame in their order, and what each failing one counts, raises
and answers. An SRC of 64 to 255 has no class (log entry 13), and a BEACON from another class than station is not answered even when it
is directed (log entry 14), the model's readings. -/
def Obligations.FramesStopAtTheirCheck : Prop :=
  ∀ (s : State) (d : Nat) (r : RawFrame),
    let u := s.advance d
    let b := r.bytes
    let len := (byteAt b 4).toNat
    let ended := { u with lc := { u.lc with rx := none, preamble := false } }
    let good := r.framingError = false ∧ 7 ≤ b.length ∧ len ≤ 96 ∧ b.length = 7 + len ∧
      fieldAt b (5 + len) 2 = (crc16 (b.take (5 + len))).toNat
    let own := u.cfg.ownAddress
    let dest := (byteAt b 0).toNat
    let src := (byteAt b 1).toNat
    let kind := (byteAt b 2).toNat
    let w := lower .lineSilent 0 { ended with lc := { ended.lc with margin := r.margin, silence := ⟨0, true⟩ } }
    let ok := count .framesRxOk 1 w
    let station := 1 ≤ src ∧ src ≤ 55
    let vehicle := 56 ≤ src ∧ src ≤ 59
    let gateway := 60 ≤ src ∧ src ≤ 62
    let permitted := (kind ∈ [1, 2, 3, 4] ∧ station) ∨ (kind ∈ [3, 5, 6, 7, 9, 13, 15, 16] ∧ gateway) ∨ (kind ∈ [9, 10, 11] ∧ vehicle)
    let directed := own ≠ 0 ∧ dest = own
    (s.inRun = false → exec (.frameNotDispatched d r) s = .next u) ∧
    (s.inRun = true → ¬good → exec (.frameNotDispatched d r) s = .next (count .framesRxBad 1 ended)) ∧
    (s.inRun = true → good → own ≠ 0 → src = own →
      exec (.frameNotDispatched d r) s = .next (occur .addressClash 0 ok)) ∧
    (s.inRun = true → good → own = 0 ∨ src ≠ own →
      (¬directed → dest ≠ 63 → kind ≠ 1 → exec (.frameNotDispatched d r) s = .next ok) ∧
      (directed ∨ dest = 63 ∨ kind = 1 →
        (kind = 0 ∨ 18 < kind ∨ src = 0 ∨ 63 ≤ src →
          exec (.frameNotDispatched d r) s = .next (count .framesRxBad 1 w)) ∧
        (1 ≤ src → src ≤ 62 →
          (kind ∈ [8, 12, 14, 17, 18] → exec (.frameNotDispatched d r) s = .next ok) ∧
          (kind ∈ [1, 2, 3, 4, 5, 6, 7, 9, 10, 11, 13, 15, 16] → ¬permitted →
            exec (.frameNotDispatched d r) s = .next (if directed ∧ kind ≠ 1 then
              reply .reply ⟨byteAt b 0, byteAt b 1, byteAt b 3, [], r.margin⟩ [byteAt b 2, 4] ok else ok)) ∧
          (kind ∈ [2, 4, 10, 11, 13, 15, 16] → permitted → ¬directed → exec (.frameNotDispatched d r) s = .next ok) ∧
          (kind = 9 → permitted → dest ≠ 63 → exec (.frameNotDispatched d r) s = .next ok))))

/-- A frame command is the frame of its kind (R106, R107, R110): the bytes of a frame, with LEN and CRC as R106 has them, run as the
command of their KIND, and a QUERY as the command of its subject. That FRAME_NOT_DISPATCHED with bytes that pass every check, and
QUERY_BAD_SUBJECT of a known subject, are taken as the frame they hold is the model's choice (log entry 19). -/
def Obligations.FramesRunAsTheirKind : Prop :=
  ∀ (s : State) (d : Nat) (f : RxFrame), f.payload.length ≤ 95 →
    let body := fun (kind : Byte) (payload : List Byte) =>
      [f.dest, f.src, kind, f.tag, BitVec.ofNat 8 payload.length] ++ payload
    let raw := fun (kind : Byte) (payload : List Byte) =>
      Instr.frameNotDispatched d ⟨body kind payload ++ be16 (crc16 (body kind payload)).toNat, false, f.margin⟩
    (∀ p ∈ [((1 : Byte), Instr.beacon d f), (2, .revokePull d f), (3, .revokePush d f), (4, .revokeGap d f), (5, .timeFrame d f),
        (6, .dirPut d f), (7, .dirDrop d f), (9, .rollcall d f), (10, .claim d f), (11, .release d f),
        (13, .queryBadSubject d f), (15, .snapshot d f), (16, .restart d f)],
      exec (raw p.1 f.payload) s = exec p.2 s) ∧
    (∀ p ∈ [((1 : Byte), Instr.queryAlarms d f), (2, .queryCounters d f), (3, .queryContainers d f), (4, .queryNeighbours d f),
        (5, .queryStatus d f), (6, .queryDirGet d f), (7, .queryLog d f)],
      exec (raw 13 (p.1 :: f.payload)) s = exec p.2 s)

/-- LINE_ACTIVITY and SILENCE_TIMER_EXPIRY (R105, R113, R117, R118): activity restarts the idle time and takes a frame in BACKOFF
back to GAP with the head chosen again; a 0x7E after a 0x55 without a gap starts a frame, whose bytes then count; 30 s of silence
raise LINE_SILENT. LINE_ACTIVITY as three signals that keep the receive check state is the model's choice (log entry 12), and so is
that a framing error does not keep a byte from being preamble or frame start (log entry 55). -/
def Obligations.ActivityAndSilence : Prop :=
  ∀ (s : State) (d : Nat), s.inRun = true →
    let u := s.advance d
    let x := u.lc
    let heardAny := if x.phase = .backoff then { x with
        idle := 0, access := x.queue.head?.map TxFrame.arrival
        phase := if x.queue = [] then .idle else if x.window.isSome then .suspended else .gap }
      else { x with idle := 0 }
    exec (.lineActivity d .begins) s = .next { u with lc := { heardAny with busy := true } } ∧
    exec (.lineActivity d .ends) s = .next { u with lc := { heardAny with busy := false } } ∧
    (∀ (b : Byte) (gap bad : Bool),
      exec (.lineActivity d (.byte b gap bad)) s = .next { u with lc := { heardAny with
        rx := match x.rx with
          | some r => some ⟨r.count + 1, crc16Byte r.crc b, r.framingError || bad⟩
          | none => if b = 0x7E ∧ x.preamble = true ∧ gap = false then some ⟨0, 0xFFFF, false⟩ else none
        preamble := if x.rx.isSome then x.preamble else decide (b = 0x55) } }) ∧
    (x.silence.running = true → exec (.silenceTimerExpiry d) s = .next
      (raise .lineSilent 0 { u with lc := { x with silence := ⟨30000000, false⟩ } })) ∧
    (x.silence.running = false → exec (.silenceTimerExpiry d) s = .next u)

/-- CLASS_GAP_REACHED, BACKOFF_SLOT_END and the start of a transmission (R106, R115, R117 to R119, R125, R128, R167): the frame in
access counts down its kept slots, or as many as are drawn below 2^k (a free value, log entry 2), and at none left is sent, the
payload of a BEACON or an ALARM formed at that moment. -/
def Obligations.AccessLeadsToTransmission : Prop :=
  ∀ (s : State) (d : Nat), s.inRun = true →
    let u := s.advance d
    QueueOrdered u.lc → ∀ f ∈ u.lc.queue, u.lc.access = some f.arrival →
      let n8 := fun (n : Nat) => (BitVec.ofNat 8 n : Byte)
      let bit := fun (i : Nat) (b : Bool) => if b then 2 ^ i else 0
      let group := fun (c : Col) => match (u.cc.get c).state, (u.fe.get c).cls with
        | .granted, .full | .depositing, .full | .full, _ => 1
        | .idle, _ | .granted, _ | .depositing, _ => 0
        | .held, _ => 2
        | .lifted, _ | .missing, _ | .settling, _ => 3
        | .fault, _ => 4
      let summary := fun (c : Col) =>
        [n8 ((u.ccfg c).fraction + 8 * group c + 64 * (u.fe.get c).cls.code), n8 ((u.fe.get c).e / 10),
          n8 (bit 0 (u.fe.get c).unknown + bit 1 (u.cc.get c).lastEmptied.isNone)] ++
          be16 (((u.cc.get c).lastEmptied.map BitVec.toNat).getD 0)
      let beacon := [n8 u.cfg.ownAddress, u.nu.seq] ++ be32 u.tu.clock.toNat ++ [n8 u.tu.hops] ++ be32 u.ru.mark ++
        [if u.acu.pending = 0 then 0 else 1, n8 u.cfg.count] ++
        (cols.filter fun c => decide (c.val < u.cl.image.count)).flatMap summary
      let alarm := [n8 u.cfg.count] ++ ((List.range 32).map fun p =>
          n8 (bit 0 (u.acu.pending.getLsbD p) + bit 1 (u.acu.levels.getLsbD p))) ++
        (match u.acu.latch with
          | some clock => 1 :: be32 clock.toNat
          | none => [0, 0, 0, 0, 0]) ++ be32 u.tu.clock.toNat ++ [n8 u.tu.hops]
      let payload := if f.kind = .beacon then beacon else if f.kind = .alarm then alarm else f.payload
      let body := [f.dest, n8 u.cfg.ownAddress, f.kind.code, f.tag, n8 payload.length] ++ payload
      let counting := fun (slots : Option Nat) (v : State) =>
        { v.lc with queue := v.lc.queue.map fun (g : TxFrame) => if g.arrival = f.arrival then { f with backoff := slots } else g }
      let sent := fun (v : State) => { v with
        lc := { counting none v with
          phase := .sending, lineOut := [0x55, 0x55, 0x7E] ++ body ++ be16 (crc16 body).toNat }
        nu := if f.kind = .beacon then { v.nu with seq := v.nu.seq + 1, holdoff := ⟨0, true⟩ } else v.nu }
      let waiting := fun (slots : Nat) (v : State) => { v with lc := { counting (some slots) v with phase := .backoff } }
      let gap := (if f.cls = 0 then 24 else if f.cls = 1 then 48 else 72) * 625
      let passed := { u with lc := { u.lc with idle := max u.lc.idle gap } }
      (u.lc.phase = .gap → u.lc.busy = false → u.lc.window = none →
        (f.backoff = some 0 → exec (.classGapReached d) s = .next (sent passed)) ∧
        (∀ k ∈ f.backoff, 0 < k → exec (.classGapReached d) s = .next (waiting k passed)) ∧
        (f.backoff = none → ∃ t, exec (.classGapReached d) s = .next t ∧
          let drawn := { passed with freeIndex := passed.freeIndex + 1 }
          (t = sent drawn ∨ ∃ k < 2 ^ min (f.attempts + 1) 6, 0 < k ∧ t = waiting k drawn))) ∧
      (u.lc.phase = .backoff → u.lc.busy = false → ∀ k ∈ f.backoff,
        exec (.backoffSlotEnd d) s = .next (if k ≤ 1 then sent u else waiting (k - 1) u)) ∧
      (u.lc.phase ≠ .gap ∨ u.lc.busy = true ∨ u.lc.window.isSome = true → exec (.classGapReached d) s = .next u) ∧
      (u.lc.phase ≠ .backoff ∨ u.lc.busy = true → exec (.backoffSlotEnd d) s = .next u)

/-- COLLISION, TRANSMISSION_COMPLETE and REPLY_DEADLINE_EXPIRY (R119, R120, R181): a collision counts and raises the attempt count;
a reply past its 250 ms is then late, an eighth attempt abandons the frame, and any other frame stays; a frame sent leaves the queue
and FRAMES_TX counts; a reply whose deadline passes leaves unless it is being sent. The reply of a promised restart that leaves is
followed by the warm reset. That the next head is SUSPENDED in an open window (R121; log entry 22), that a late or abandoned reply
counts as departed (log entry 47), and that the frame leaves before the counters are raised (log entry 57), are the model's readings. -/
def Obligations.TransmissionsEnd : Prop :=
  ∀ (s : State) (d : Nat), s.inRun = true → s.cl.resetLow = false →
    let u := s.advance d
    QueueOrdered u.lc → ∀ f ∈ u.lc.queue,
      let rest := u.lc.queue.filter fun g => decide (g.arrival ≠ f.arrival)
      let headed := fun (q : List TxFrame) (idle : Nat) => { u with lc := { u.lc with
        queue := q, idle := idle, access := q.head?.map TxFrame.arrival
        phase := if q = [] then .idle else if u.lc.window.isSome then .suspended else .gap } }
      let late := ∃ n ∈ f.deadline, 6000000 ≤ n
      let left := fun (i : Instr) (t : State) =>
        (f.departure = false → exec i s = .next t) ∧
        (f.departure = true → ∃ a, exec (.resetNLow 0) t = .next a ∧ exec i s = exec (.resetNHigh 0) a)
      (u.lc.phase = .sending → u.lc.access = some f.arrival →
        left (.transmissionComplete d) (count .framesTx 1 (headed rest 0)) ∧
        (late → left (.collision d) (count .repliesLate 1 (count .collisions 1 (headed rest 0)))) ∧
        (¬late → 7 ≤ f.attempts → left (.collision d) (count .txAbandoned 1 (count .collisions 1 (headed rest 0)))) ∧
        (¬late → f.attempts < 7 → exec (.collision d) s = .next (count .collisions 1 (headed
          (u.lc.queue.map fun (g : TxFrame) => if g.arrival = f.arrival then { f with attempts := f.attempts + 1 } else g) 0)))) ∧
      (∀ i < u.lc.queue.length, u.lc.queue[i]? = some f →
        (f.deadline = none → exec (.replyDeadlineExpiry d i) s = .next u) ∧
        (f.deadline.isSome = true → u.lc.phase = .sending → u.lc.access = some f.arrival →
          exec (.replyDeadlineExpiry d i) s = .next { u with lc := { u.lc with
            queue := u.lc.queue.map fun (g : TxFrame) =>
              if g.arrival = f.arrival then { f with deadline := some (max 6000000 (f.deadline.getD 0)) } else g } }) ∧
        (f.deadline.isSome = true → u.lc.access = some f.arrival → u.lc.phase ≠ .sending →
          left (.replyDeadlineExpiry d i) (count .repliesLate 1 (headed rest u.lc.idle))) ∧
        (f.deadline.isSome = true → u.lc.access ≠ some f.arrival →
          left (.replyDeadlineExpiry d i) (count .repliesLate 1 { u with lc := { u.lc with queue := rest } }))) ∧
      (u.lc.phase ≠ .sending → exec (.collision d) s = .next u ∧ exec (.transmissionComplete d) s = .next u)

end
end

