-- ==== Sys2Proof/Laws/State.lean ====
section
/-! SUPPORT. One lemma per field per update of State, and the laws of a quad: every later proof cites these and unfolds no record
update. -/

namespace Sys2Proof.Machine

/-! ## Quads -/

theorem Quad.ext_get {α : Type} {p q : Quad α} (h : ∀ i : Col, p.get i = q.get i) : p = q := by
  cases p; cases q
  have h0 := h 0; have h1 := h 1; have h2 := h 2; have h3 := h 3
  simp only [Quad.get] at h0 h1 h2 h3
  simp [h0, h1, h2, h3]

@[simp] theorem Quad.get_set_same {α : Type} (q : Quad α) (i : Col) (x : α) : (q.set i x).get i = x := by
  fin_cases i <;> rfl

@[simp] theorem Quad.get_set_ne {α : Type} (q : Quad α) (i j : Col) (x : α) (h : j ≠ i) :
    (q.set i x).get j = q.get j := by
  fin_cases i <;> fin_cases j <;> first | rfl | exact absurd rfl h

theorem Quad.get_set {α : Type} (q : Quad α) (i j : Col) (x : α) :
    (q.set i x).get j = if j = i then x else q.get j := by
  by_cases h : j = i
  · subst h; simp
  · simp [h]

@[simp] theorem Quad.set_get {α : Type} (q : Quad α) (i : Col) : q.set i (q.get i) = q := by
  fin_cases i <;> rfl

@[simp] theorem Quad.set_set {α : Type} (q : Quad α) (i : Col) (x y : α) : (q.set i x).set i y = q.set i y := by
  fin_cases i <;> rfl

@[simp] theorem Quad.get_ofFn {α : Type} (f : Col → α) (i : Col) : (Quad.ofFn f).get i = f i := by
  fin_cases i <;> rfl

@[simp] theorem Quad.get_all {α : Type} (x : α) (i : Col) : (Quad.all x).get i = x := by
  fin_cases i <;> rfl

theorem mem_cols (c : Col) : c ∈ cols := by fin_cases c <;> decide

/-! ## Updates of one block -/

@[simp] theorem State.setCc_cl (s : State) (c : Col) (x : Cc) : (s.setCc c x).cl = s.cl := rfl
@[simp] theorem State.setCc_cc (s : State) (c : Col) (x : Cc) : (s.setCc c x).cc = s.cc.set c x := rfl
@[simp] theorem State.setCc_eu (s : State) (c : Col) (x : Cc) : (s.setCc c x).eu = s.eu := rfl
@[simp] theorem State.setCc_fe (s : State) (c : Col) (x : Cc) : (s.setCc c x).fe = s.fe := rfl
@[simp] theorem State.setCc_cd (s : State) (c : Col) (x : Cc) : (s.setCc c x).cd = s.cd := rfl
@[simp] theorem State.setCc_sc (s : State) (c : Col) (x : Cc) : (s.setCc c x).sc = s.sc := rfl
@[simp] theorem State.setCc_au (s : State) (c : Col) (x : Cc) : (s.setCc c x).au = s.au := rfl
@[simp] theorem State.setCc_ru (s : State) (c : Col) (x : Cc) : (s.setCc c x).ru = s.ru := rfl
@[simp] theorem State.setCc_lc (s : State) (c : Col) (x : Cc) : (s.setCc c x).lc = s.lc := rfl
@[simp] theorem State.setCc_nu (s : State) (c : Col) (x : Cc) : (s.setCc c x).nu = s.nu := rfl
@[simp] theorem State.setCc_tu (s : State) (c : Col) (x : Cc) : (s.setCc c x).tu = s.tu := rfl
@[simp] theorem State.setCc_rr (s : State) (c : Col) (x : Cc) : (s.setCc c x).rr = s.rr := rfl
@[simp] theorem State.setCc_dl (s : State) (c : Col) (x : Cc) : (s.setCc c x).dl = s.dl := rfl
@[simp] theorem State.setCc_acu (s : State) (c : Col) (x : Cc) : (s.setCc c x).acu = s.acu := rfl
@[simp] theorem State.setCc_restartPromised (s : State) (c : Col) (x : Cc) : (s.setCc c x).restartPromised = s.restartPromised := rfl
@[simp] theorem State.setCc_freeIndex (s : State) (c : Col) (x : Cc) : (s.setCc c x).freeIndex = s.freeIndex := rfl
@[simp] theorem State.setCc_pending (s : State) (c : Col) (x : Cc) : (s.setCc c x).pending = s.pending := rfl
@[simp] theorem State.setCc_inRun (s : State) (c : Col) (x : Cc) : (s.setCc c x).inRun = s.inRun := rfl
@[simp] theorem State.setCc_serves (s : State) (c : Col) (x : Cc) (d : Col) : (s.setCc c x).serves d = s.serves d := rfl
@[simp] theorem State.setCc_cfg (s : State) (c : Col) (x : Cc) : (s.setCc c x).cfg = s.cfg := rfl
@[simp] theorem State.setCc_ccfg (s : State) (c : Col) (x : Cc) (d : Col) : (s.setCc c x).ccfg d = s.ccfg d := rfl

@[simp] theorem State.setFe_cl (s : State) (c : Col) (x : Fe) : (s.setFe c x).cl = s.cl := rfl
@[simp] theorem State.setFe_cc (s : State) (c : Col) (x : Fe) : (s.setFe c x).cc = s.cc := rfl
@[simp] theorem State.setFe_eu (s : State) (c : Col) (x : Fe) : (s.setFe c x).eu = s.eu := rfl
@[simp] theorem State.setFe_fe (s : State) (c : Col) (x : Fe) : (s.setFe c x).fe = s.fe.set c x := rfl
@[simp] theorem State.setFe_cd (s : State) (c : Col) (x : Fe) : (s.setFe c x).cd = s.cd := rfl
@[simp] theorem State.setFe_sc (s : State) (c : Col) (x : Fe) : (s.setFe c x).sc = s.sc := rfl
@[simp] theorem State.setFe_au (s : State) (c : Col) (x : Fe) : (s.setFe c x).au = s.au := rfl
@[simp] theorem State.setFe_ru (s : State) (c : Col) (x : Fe) : (s.setFe c x).ru = s.ru := rfl
@[simp] theorem State.setFe_lc (s : State) (c : Col) (x : Fe) : (s.setFe c x).lc = s.lc := rfl
@[simp] theorem State.setFe_nu (s : State) (c : Col) (x : Fe) : (s.setFe c x).nu = s.nu := rfl
@[simp] theorem State.setFe_tu (s : State) (c : Col) (x : Fe) : (s.setFe c x).tu = s.tu := rfl
@[simp] theorem State.setFe_rr (s : State) (c : Col) (x : Fe) : (s.setFe c x).rr = s.rr := rfl
@[simp] theorem State.setFe_dl (s : State) (c : Col) (x : Fe) : (s.setFe c x).dl = s.dl := rfl
@[simp] theorem State.setFe_acu (s : State) (c : Col) (x : Fe) : (s.setFe c x).acu = s.acu := rfl
@[simp] theorem State.setFe_restartPromised (s : State) (c : Col) (x : Fe) : (s.setFe c x).restartPromised = s.restartPromised := rfl
@[simp] theorem State.setFe_freeIndex (s : State) (c : Col) (x : Fe) : (s.setFe c x).freeIndex = s.freeIndex := rfl
@[simp] theorem State.setFe_pending (s : State) (c : Col) (x : Fe) : (s.setFe c x).pending = s.pending := rfl
@[simp] theorem State.setFe_inRun (s : State) (c : Col) (x : Fe) : (s.setFe c x).inRun = s.inRun := rfl
@[simp] theorem State.setFe_serves (s : State) (c : Col) (x : Fe) (d : Col) : (s.setFe c x).serves d = s.serves d := rfl
@[simp] theorem State.setFe_cfg (s : State) (c : Col) (x : Fe) : (s.setFe c x).cfg = s.cfg := rfl
@[simp] theorem State.setFe_ccfg (s : State) (c : Col) (x : Fe) (d : Col) : (s.setFe c x).ccfg d = s.ccfg d := rfl

@[simp] theorem State.setAu_cl (s : State) (c : Col) (x : Au) : (s.setAu c x).cl = s.cl := rfl
@[simp] theorem State.setAu_cc (s : State) (c : Col) (x : Au) : (s.setAu c x).cc = s.cc := rfl
@[simp] theorem State.setAu_eu (s : State) (c : Col) (x : Au) : (s.setAu c x).eu = s.eu := rfl
@[simp] theorem State.setAu_fe (s : State) (c : Col) (x : Au) : (s.setAu c x).fe = s.fe := rfl
@[simp] theorem State.setAu_cd (s : State) (c : Col) (x : Au) : (s.setAu c x).cd = s.cd := rfl
@[simp] theorem State.setAu_sc (s : State) (c : Col) (x : Au) : (s.setAu c x).sc = s.sc := rfl
@[simp] theorem State.setAu_au (s : State) (c : Col) (x : Au) : (s.setAu c x).au = s.au.set c x := rfl
@[simp] theorem State.setAu_ru (s : State) (c : Col) (x : Au) : (s.setAu c x).ru = s.ru := rfl
@[simp] theorem State.setAu_lc (s : State) (c : Col) (x : Au) : (s.setAu c x).lc = s.lc := rfl
@[simp] theorem State.setAu_nu (s : State) (c : Col) (x : Au) : (s.setAu c x).nu = s.nu := rfl
@[simp] theorem State.setAu_tu (s : State) (c : Col) (x : Au) : (s.setAu c x).tu = s.tu := rfl
@[simp] theorem State.setAu_rr (s : State) (c : Col) (x : Au) : (s.setAu c x).rr = s.rr := rfl
@[simp] theorem State.setAu_dl (s : State) (c : Col) (x : Au) : (s.setAu c x).dl = s.dl := rfl
@[simp] theorem State.setAu_acu (s : State) (c : Col) (x : Au) : (s.setAu c x).acu = s.acu := rfl
@[simp] theorem State.setAu_restartPromised (s : State) (c : Col) (x : Au) : (s.setAu c x).restartPromised = s.restartPromised := rfl
@[simp] theorem State.setAu_freeIndex (s : State) (c : Col) (x : Au) : (s.setAu c x).freeIndex = s.freeIndex := rfl
@[simp] theorem State.setAu_pending (s : State) (c : Col) (x : Au) : (s.setAu c x).pending = s.pending := rfl
@[simp] theorem State.setAu_inRun (s : State) (c : Col) (x : Au) : (s.setAu c x).inRun = s.inRun := rfl
@[simp] theorem State.setAu_serves (s : State) (c : Col) (x : Au) (d : Col) : (s.setAu c x).serves d = s.serves d := rfl
@[simp] theorem State.setAu_cfg (s : State) (c : Col) (x : Au) : (s.setAu c x).cfg = s.cfg := rfl
@[simp] theorem State.setAu_ccfg (s : State) (c : Col) (x : Au) (d : Col) : (s.setAu c x).ccfg d = s.ccfg d := rfl

@[simp] theorem State.setEuCol_cl (s : State) (c : Col) (x : EuCol) : (s.setEuCol c x).cl = s.cl := rfl
@[simp] theorem State.setEuCol_cc (s : State) (c : Col) (x : EuCol) : (s.setEuCol c x).cc = s.cc := rfl
@[simp] theorem State.setEuCol_eu (s : State) (c : Col) (x : EuCol) : (s.setEuCol c x).eu = { s.eu with cols := s.eu.cols.set c x } := rfl
@[simp] theorem State.setEuCol_fe (s : State) (c : Col) (x : EuCol) : (s.setEuCol c x).fe = s.fe := rfl
@[simp] theorem State.setEuCol_cd (s : State) (c : Col) (x : EuCol) : (s.setEuCol c x).cd = s.cd := rfl
@[simp] theorem State.setEuCol_sc (s : State) (c : Col) (x : EuCol) : (s.setEuCol c x).sc = s.sc := rfl
@[simp] theorem State.setEuCol_au (s : State) (c : Col) (x : EuCol) : (s.setEuCol c x).au = s.au := rfl
@[simp] theorem State.setEuCol_ru (s : State) (c : Col) (x : EuCol) : (s.setEuCol c x).ru = s.ru := rfl
@[simp] theorem State.setEuCol_lc (s : State) (c : Col) (x : EuCol) : (s.setEuCol c x).lc = s.lc := rfl
@[simp] theorem State.setEuCol_nu (s : State) (c : Col) (x : EuCol) : (s.setEuCol c x).nu = s.nu := rfl
@[simp] theorem State.setEuCol_tu (s : State) (c : Col) (x : EuCol) : (s.setEuCol c x).tu = s.tu := rfl
@[simp] theorem State.setEuCol_rr (s : State) (c : Col) (x : EuCol) : (s.setEuCol c x).rr = s.rr := rfl
@[simp] theorem State.setEuCol_dl (s : State) (c : Col) (x : EuCol) : (s.setEuCol c x).dl = s.dl := rfl
@[simp] theorem State.setEuCol_acu (s : State) (c : Col) (x : EuCol) : (s.setEuCol c x).acu = s.acu := rfl
@[simp] theorem State.setEuCol_restartPromised (s : State) (c : Col) (x : EuCol) : (s.setEuCol c x).restartPromised = s.restartPromised := rfl
@[simp] theorem State.setEuCol_freeIndex (s : State) (c : Col) (x : EuCol) : (s.setEuCol c x).freeIndex = s.freeIndex := rfl
@[simp] theorem State.setEuCol_pending (s : State) (c : Col) (x : EuCol) : (s.setEuCol c x).pending = s.pending := rfl
@[simp] theorem State.setEuCol_inRun (s : State) (c : Col) (x : EuCol) : (s.setEuCol c x).inRun = s.inRun := rfl
@[simp] theorem State.setEuCol_serves (s : State) (c : Col) (x : EuCol) (d : Col) : (s.setEuCol c x).serves d = s.serves d := rfl
@[simp] theorem State.setEuCol_cfg (s : State) (c : Col) (x : EuCol) : (s.setEuCol c x).cfg = s.cfg := rfl
@[simp] theorem State.setEuCol_ccfg (s : State) (c : Col) (x : EuCol) (d : Col) : (s.setEuCol c x).ccfg d = s.ccfg d := rfl

@[simp] theorem State.setEu_cl (s : State) (x : Eu) : (s.setEu x).cl = s.cl := rfl
@[simp] theorem State.setEu_cc (s : State) (x : Eu) : (s.setEu x).cc = s.cc := rfl
@[simp] theorem State.setEu_eu (s : State) (x : Eu) : (s.setEu x).eu = x := rfl
@[simp] theorem State.setEu_fe (s : State) (x : Eu) : (s.setEu x).fe = s.fe := rfl
@[simp] theorem State.setEu_cd (s : State) (x : Eu) : (s.setEu x).cd = s.cd := rfl
@[simp] theorem State.setEu_sc (s : State) (x : Eu) : (s.setEu x).sc = s.sc := rfl
@[simp] theorem State.setEu_au (s : State) (x : Eu) : (s.setEu x).au = s.au := rfl
@[simp] theorem State.setEu_ru (s : State) (x : Eu) : (s.setEu x).ru = s.ru := rfl
@[simp] theorem State.setEu_lc (s : State) (x : Eu) : (s.setEu x).lc = s.lc := rfl
@[simp] theorem State.setEu_nu (s : State) (x : Eu) : (s.setEu x).nu = s.nu := rfl
@[simp] theorem State.setEu_tu (s : State) (x : Eu) : (s.setEu x).tu = s.tu := rfl
@[simp] theorem State.setEu_rr (s : State) (x : Eu) : (s.setEu x).rr = s.rr := rfl
@[simp] theorem State.setEu_dl (s : State) (x : Eu) : (s.setEu x).dl = s.dl := rfl
@[simp] theorem State.setEu_acu (s : State) (x : Eu) : (s.setEu x).acu = s.acu := rfl
@[simp] theorem State.setEu_restartPromised (s : State) (x : Eu) : (s.setEu x).restartPromised = s.restartPromised := rfl
@[simp] theorem State.setEu_freeIndex (s : State) (x : Eu) : (s.setEu x).freeIndex = s.freeIndex := rfl
@[simp] theorem State.setEu_pending (s : State) (x : Eu) : (s.setEu x).pending = s.pending := rfl
@[simp] theorem State.setEu_inRun (s : State) (x : Eu) : (s.setEu x).inRun = s.inRun := rfl
@[simp] theorem State.setEu_serves (s : State) (x : Eu) (d : Col) : (s.setEu x).serves d = s.serves d := rfl
@[simp] theorem State.setEu_cfg (s : State) (x : Eu) : (s.setEu x).cfg = s.cfg := rfl
@[simp] theorem State.setEu_ccfg (s : State) (x : Eu) (d : Col) : (s.setEu x).ccfg d = s.ccfg d := rfl

@[simp] theorem State.setCl_cl (s : State) (x : Cl) : (s.setCl x).cl = x := rfl
@[simp] theorem State.setCl_cc (s : State) (x : Cl) : (s.setCl x).cc = s.cc := rfl
@[simp] theorem State.setCl_eu (s : State) (x : Cl) : (s.setCl x).eu = s.eu := rfl
@[simp] theorem State.setCl_fe (s : State) (x : Cl) : (s.setCl x).fe = s.fe := rfl
@[simp] theorem State.setCl_cd (s : State) (x : Cl) : (s.setCl x).cd = s.cd := rfl
@[simp] theorem State.setCl_sc (s : State) (x : Cl) : (s.setCl x).sc = s.sc := rfl
@[simp] theorem State.setCl_au (s : State) (x : Cl) : (s.setCl x).au = s.au := rfl
@[simp] theorem State.setCl_ru (s : State) (x : Cl) : (s.setCl x).ru = s.ru := rfl
@[simp] theorem State.setCl_lc (s : State) (x : Cl) : (s.setCl x).lc = s.lc := rfl
@[simp] theorem State.setCl_nu (s : State) (x : Cl) : (s.setCl x).nu = s.nu := rfl
@[simp] theorem State.setCl_tu (s : State) (x : Cl) : (s.setCl x).tu = s.tu := rfl
@[simp] theorem State.setCl_rr (s : State) (x : Cl) : (s.setCl x).rr = s.rr := rfl
@[simp] theorem State.setCl_dl (s : State) (x : Cl) : (s.setCl x).dl = s.dl := rfl
@[simp] theorem State.setCl_acu (s : State) (x : Cl) : (s.setCl x).acu = s.acu := rfl
@[simp] theorem State.setCl_restartPromised (s : State) (x : Cl) : (s.setCl x).restartPromised = s.restartPromised := rfl
@[simp] theorem State.setCl_freeIndex (s : State) (x : Cl) : (s.setCl x).freeIndex = s.freeIndex := rfl
@[simp] theorem State.setCl_pending (s : State) (x : Cl) : (s.setCl x).pending = s.pending := rfl

@[simp] theorem State.setCd_cl (s : State) (x : Cd) : (s.setCd x).cl = s.cl := rfl
@[simp] theorem State.setCd_cc (s : State) (x : Cd) : (s.setCd x).cc = s.cc := rfl
@[simp] theorem State.setCd_eu (s : State) (x : Cd) : (s.setCd x).eu = s.eu := rfl
@[simp] theorem State.setCd_fe (s : State) (x : Cd) : (s.setCd x).fe = s.fe := rfl
@[simp] theorem State.setCd_cd (s : State) (x : Cd) : (s.setCd x).cd = x := rfl
@[simp] theorem State.setCd_sc (s : State) (x : Cd) : (s.setCd x).sc = s.sc := rfl
@[simp] theorem State.setCd_au (s : State) (x : Cd) : (s.setCd x).au = s.au := rfl
@[simp] theorem State.setCd_ru (s : State) (x : Cd) : (s.setCd x).ru = s.ru := rfl
@[simp] theorem State.setCd_lc (s : State) (x : Cd) : (s.setCd x).lc = s.lc := rfl
@[simp] theorem State.setCd_nu (s : State) (x : Cd) : (s.setCd x).nu = s.nu := rfl
@[simp] theorem State.setCd_tu (s : State) (x : Cd) : (s.setCd x).tu = s.tu := rfl
@[simp] theorem State.setCd_rr (s : State) (x : Cd) : (s.setCd x).rr = s.rr := rfl
@[simp] theorem State.setCd_dl (s : State) (x : Cd) : (s.setCd x).dl = s.dl := rfl
@[simp] theorem State.setCd_acu (s : State) (x : Cd) : (s.setCd x).acu = s.acu := rfl
@[simp] theorem State.setCd_restartPromised (s : State) (x : Cd) : (s.setCd x).restartPromised = s.restartPromised := rfl
@[simp] theorem State.setCd_freeIndex (s : State) (x : Cd) : (s.setCd x).freeIndex = s.freeIndex := rfl
@[simp] theorem State.setCd_pending (s : State) (x : Cd) : (s.setCd x).pending = s.pending := rfl
@[simp] theorem State.setCd_inRun (s : State) (x : Cd) : (s.setCd x).inRun = s.inRun := rfl
@[simp] theorem State.setCd_serves (s : State) (x : Cd) (d : Col) : (s.setCd x).serves d = s.serves d := rfl
@[simp] theorem State.setCd_cfg (s : State) (x : Cd) : (s.setCd x).cfg = s.cfg := rfl
@[simp] theorem State.setCd_ccfg (s : State) (x : Cd) (d : Col) : (s.setCd x).ccfg d = s.ccfg d := rfl

@[simp] theorem State.setSc_cl (s : State) (x : Sc) : (s.setSc x).cl = s.cl := rfl
@[simp] theorem State.setSc_cc (s : State) (x : Sc) : (s.setSc x).cc = s.cc := rfl
@[simp] theorem State.setSc_eu (s : State) (x : Sc) : (s.setSc x).eu = s.eu := rfl
@[simp] theorem State.setSc_fe (s : State) (x : Sc) : (s.setSc x).fe = s.fe := rfl
@[simp] theorem State.setSc_cd (s : State) (x : Sc) : (s.setSc x).cd = s.cd := rfl
@[simp] theorem State.setSc_sc (s : State) (x : Sc) : (s.setSc x).sc = x := rfl
@[simp] theorem State.setSc_au (s : State) (x : Sc) : (s.setSc x).au = s.au := rfl
@[simp] theorem State.setSc_ru (s : State) (x : Sc) : (s.setSc x).ru = s.ru := rfl
@[simp] theorem State.setSc_lc (s : State) (x : Sc) : (s.setSc x).lc = s.lc := rfl
@[simp] theorem State.setSc_nu (s : State) (x : Sc) : (s.setSc x).nu = s.nu := rfl
@[simp] theorem State.setSc_tu (s : State) (x : Sc) : (s.setSc x).tu = s.tu := rfl
@[simp] theorem State.setSc_rr (s : State) (x : Sc) : (s.setSc x).rr = s.rr := rfl
@[simp] theorem State.setSc_dl (s : State) (x : Sc) : (s.setSc x).dl = s.dl := rfl
@[simp] theorem State.setSc_acu (s : State) (x : Sc) : (s.setSc x).acu = s.acu := rfl
@[simp] theorem State.setSc_restartPromised (s : State) (x : Sc) : (s.setSc x).restartPromised = s.restartPromised := rfl
@[simp] theorem State.setSc_freeIndex (s : State) (x : Sc) : (s.setSc x).freeIndex = s.freeIndex := rfl
@[simp] theorem State.setSc_pending (s : State) (x : Sc) : (s.setSc x).pending = s.pending := rfl
@[simp] theorem State.setSc_inRun (s : State) (x : Sc) : (s.setSc x).inRun = s.inRun := rfl
@[simp] theorem State.setSc_serves (s : State) (x : Sc) (d : Col) : (s.setSc x).serves d = s.serves d := rfl
@[simp] theorem State.setSc_cfg (s : State) (x : Sc) : (s.setSc x).cfg = s.cfg := rfl
@[simp] theorem State.setSc_ccfg (s : State) (x : Sc) (d : Col) : (s.setSc x).ccfg d = s.ccfg d := rfl

@[simp] theorem State.setRu_cl (s : State) (x : Ru) : (s.setRu x).cl = s.cl := rfl
@[simp] theorem State.setRu_cc (s : State) (x : Ru) : (s.setRu x).cc = s.cc := rfl
@[simp] theorem State.setRu_eu (s : State) (x : Ru) : (s.setRu x).eu = s.eu := rfl
@[simp] theorem State.setRu_fe (s : State) (x : Ru) : (s.setRu x).fe = s.fe := rfl
@[simp] theorem State.setRu_cd (s : State) (x : Ru) : (s.setRu x).cd = s.cd := rfl
@[simp] theorem State.setRu_sc (s : State) (x : Ru) : (s.setRu x).sc = s.sc := rfl
@[simp] theorem State.setRu_au (s : State) (x : Ru) : (s.setRu x).au = s.au := rfl
@[simp] theorem State.setRu_ru (s : State) (x : Ru) : (s.setRu x).ru = x := rfl
@[simp] theorem State.setRu_lc (s : State) (x : Ru) : (s.setRu x).lc = s.lc := rfl
@[simp] theorem State.setRu_nu (s : State) (x : Ru) : (s.setRu x).nu = s.nu := rfl
@[simp] theorem State.setRu_tu (s : State) (x : Ru) : (s.setRu x).tu = s.tu := rfl
@[simp] theorem State.setRu_rr (s : State) (x : Ru) : (s.setRu x).rr = s.rr := rfl
@[simp] theorem State.setRu_dl (s : State) (x : Ru) : (s.setRu x).dl = s.dl := rfl
@[simp] theorem State.setRu_acu (s : State) (x : Ru) : (s.setRu x).acu = s.acu := rfl
@[simp] theorem State.setRu_restartPromised (s : State) (x : Ru) : (s.setRu x).restartPromised = s.restartPromised := rfl
@[simp] theorem State.setRu_freeIndex (s : State) (x : Ru) : (s.setRu x).freeIndex = s.freeIndex := rfl
@[simp] theorem State.setRu_pending (s : State) (x : Ru) : (s.setRu x).pending = s.pending := rfl
@[simp] theorem State.setRu_inRun (s : State) (x : Ru) : (s.setRu x).inRun = s.inRun := rfl
@[simp] theorem State.setRu_serves (s : State) (x : Ru) (d : Col) : (s.setRu x).serves d = s.serves d := rfl
@[simp] theorem State.setRu_cfg (s : State) (x : Ru) : (s.setRu x).cfg = s.cfg := rfl
@[simp] theorem State.setRu_ccfg (s : State) (x : Ru) (d : Col) : (s.setRu x).ccfg d = s.ccfg d := rfl

@[simp] theorem State.setLc_cl (s : State) (x : Lc) : (s.setLc x).cl = s.cl := rfl
@[simp] theorem State.setLc_cc (s : State) (x : Lc) : (s.setLc x).cc = s.cc := rfl
@[simp] theorem State.setLc_eu (s : State) (x : Lc) : (s.setLc x).eu = s.eu := rfl
@[simp] theorem State.setLc_fe (s : State) (x : Lc) : (s.setLc x).fe = s.fe := rfl
@[simp] theorem State.setLc_cd (s : State) (x : Lc) : (s.setLc x).cd = s.cd := rfl
@[simp] theorem State.setLc_sc (s : State) (x : Lc) : (s.setLc x).sc = s.sc := rfl
@[simp] theorem State.setLc_au (s : State) (x : Lc) : (s.setLc x).au = s.au := rfl
@[simp] theorem State.setLc_ru (s : State) (x : Lc) : (s.setLc x).ru = s.ru := rfl
@[simp] theorem State.setLc_lc (s : State) (x : Lc) : (s.setLc x).lc = x := rfl
@[simp] theorem State.setLc_nu (s : State) (x : Lc) : (s.setLc x).nu = s.nu := rfl
@[simp] theorem State.setLc_tu (s : State) (x : Lc) : (s.setLc x).tu = s.tu := rfl
@[simp] theorem State.setLc_rr (s : State) (x : Lc) : (s.setLc x).rr = s.rr := rfl
@[simp] theorem State.setLc_dl (s : State) (x : Lc) : (s.setLc x).dl = s.dl := rfl
@[simp] theorem State.setLc_acu (s : State) (x : Lc) : (s.setLc x).acu = s.acu := rfl
@[simp] theorem State.setLc_restartPromised (s : State) (x : Lc) : (s.setLc x).restartPromised = s.restartPromised := rfl
@[simp] theorem State.setLc_freeIndex (s : State) (x : Lc) : (s.setLc x).freeIndex = s.freeIndex := rfl
@[simp] theorem State.setLc_pending (s : State) (x : Lc) : (s.setLc x).pending = s.pending := rfl
@[simp] theorem State.setLc_inRun (s : State) (x : Lc) : (s.setLc x).inRun = s.inRun := rfl
@[simp] theorem State.setLc_serves (s : State) (x : Lc) (d : Col) : (s.setLc x).serves d = s.serves d := rfl
@[simp] theorem State.setLc_cfg (s : State) (x : Lc) : (s.setLc x).cfg = s.cfg := rfl
@[simp] theorem State.setLc_ccfg (s : State) (x : Lc) (d : Col) : (s.setLc x).ccfg d = s.ccfg d := rfl

@[simp] theorem State.setNu_cl (s : State) (x : Nu) : (s.setNu x).cl = s.cl := rfl
@[simp] theorem State.setNu_cc (s : State) (x : Nu) : (s.setNu x).cc = s.cc := rfl
@[simp] theorem State.setNu_eu (s : State) (x : Nu) : (s.setNu x).eu = s.eu := rfl
@[simp] theorem State.setNu_fe (s : State) (x : Nu) : (s.setNu x).fe = s.fe := rfl
@[simp] theorem State.setNu_cd (s : State) (x : Nu) : (s.setNu x).cd = s.cd := rfl
@[simp] theorem State.setNu_sc (s : State) (x : Nu) : (s.setNu x).sc = s.sc := rfl
@[simp] theorem State.setNu_au (s : State) (x : Nu) : (s.setNu x).au = s.au := rfl
@[simp] theorem State.setNu_ru (s : State) (x : Nu) : (s.setNu x).ru = s.ru := rfl
@[simp] theorem State.setNu_lc (s : State) (x : Nu) : (s.setNu x).lc = s.lc := rfl
@[simp] theorem State.setNu_nu (s : State) (x : Nu) : (s.setNu x).nu = x := rfl
@[simp] theorem State.setNu_tu (s : State) (x : Nu) : (s.setNu x).tu = s.tu := rfl
@[simp] theorem State.setNu_rr (s : State) (x : Nu) : (s.setNu x).rr = s.rr := rfl
@[simp] theorem State.setNu_dl (s : State) (x : Nu) : (s.setNu x).dl = s.dl := rfl
@[simp] theorem State.setNu_acu (s : State) (x : Nu) : (s.setNu x).acu = s.acu := rfl
@[simp] theorem State.setNu_restartPromised (s : State) (x : Nu) : (s.setNu x).restartPromised = s.restartPromised := rfl
@[simp] theorem State.setNu_freeIndex (s : State) (x : Nu) : (s.setNu x).freeIndex = s.freeIndex := rfl
@[simp] theorem State.setNu_pending (s : State) (x : Nu) : (s.setNu x).pending = s.pending := rfl
@[simp] theorem State.setNu_inRun (s : State) (x : Nu) : (s.setNu x).inRun = s.inRun := rfl
@[simp] theorem State.setNu_serves (s : State) (x : Nu) (d : Col) : (s.setNu x).serves d = s.serves d := rfl
@[simp] theorem State.setNu_cfg (s : State) (x : Nu) : (s.setNu x).cfg = s.cfg := rfl
@[simp] theorem State.setNu_ccfg (s : State) (x : Nu) (d : Col) : (s.setNu x).ccfg d = s.ccfg d := rfl

@[simp] theorem State.setTu_cl (s : State) (x : Tu) : (s.setTu x).cl = s.cl := rfl
@[simp] theorem State.setTu_cc (s : State) (x : Tu) : (s.setTu x).cc = s.cc := rfl
@[simp] theorem State.setTu_eu (s : State) (x : Tu) : (s.setTu x).eu = s.eu := rfl
@[simp] theorem State.setTu_fe (s : State) (x : Tu) : (s.setTu x).fe = s.fe := rfl
@[simp] theorem State.setTu_cd (s : State) (x : Tu) : (s.setTu x).cd = s.cd := rfl
@[simp] theorem State.setTu_sc (s : State) (x : Tu) : (s.setTu x).sc = s.sc := rfl
@[simp] theorem State.setTu_au (s : State) (x : Tu) : (s.setTu x).au = s.au := rfl
@[simp] theorem State.setTu_ru (s : State) (x : Tu) : (s.setTu x).ru = s.ru := rfl
@[simp] theorem State.setTu_lc (s : State) (x : Tu) : (s.setTu x).lc = s.lc := rfl
@[simp] theorem State.setTu_nu (s : State) (x : Tu) : (s.setTu x).nu = s.nu := rfl
@[simp] theorem State.setTu_tu (s : State) (x : Tu) : (s.setTu x).tu = x := rfl
@[simp] theorem State.setTu_rr (s : State) (x : Tu) : (s.setTu x).rr = s.rr := rfl
@[simp] theorem State.setTu_dl (s : State) (x : Tu) : (s.setTu x).dl = s.dl := rfl
@[simp] theorem State.setTu_acu (s : State) (x : Tu) : (s.setTu x).acu = s.acu := rfl
@[simp] theorem State.setTu_restartPromised (s : State) (x : Tu) : (s.setTu x).restartPromised = s.restartPromised := rfl
@[simp] theorem State.setTu_freeIndex (s : State) (x : Tu) : (s.setTu x).freeIndex = s.freeIndex := rfl
@[simp] theorem State.setTu_pending (s : State) (x : Tu) : (s.setTu x).pending = s.pending := rfl
@[simp] theorem State.setTu_inRun (s : State) (x : Tu) : (s.setTu x).inRun = s.inRun := rfl
@[simp] theorem State.setTu_serves (s : State) (x : Tu) (d : Col) : (s.setTu x).serves d = s.serves d := rfl
@[simp] theorem State.setTu_cfg (s : State) (x : Tu) : (s.setTu x).cfg = s.cfg := rfl
@[simp] theorem State.setTu_ccfg (s : State) (x : Tu) (d : Col) : (s.setTu x).ccfg d = s.ccfg d := rfl

@[simp] theorem State.setDl_cl (s : State) (x : Dl) : (s.setDl x).cl = s.cl := rfl
@[simp] theorem State.setDl_cc (s : State) (x : Dl) : (s.setDl x).cc = s.cc := rfl
@[simp] theorem State.setDl_eu (s : State) (x : Dl) : (s.setDl x).eu = s.eu := rfl
@[simp] theorem State.setDl_fe (s : State) (x : Dl) : (s.setDl x).fe = s.fe := rfl
@[simp] theorem State.setDl_cd (s : State) (x : Dl) : (s.setDl x).cd = s.cd := rfl
@[simp] theorem State.setDl_sc (s : State) (x : Dl) : (s.setDl x).sc = s.sc := rfl
@[simp] theorem State.setDl_au (s : State) (x : Dl) : (s.setDl x).au = s.au := rfl
@[simp] theorem State.setDl_ru (s : State) (x : Dl) : (s.setDl x).ru = s.ru := rfl
@[simp] theorem State.setDl_lc (s : State) (x : Dl) : (s.setDl x).lc = s.lc := rfl
@[simp] theorem State.setDl_nu (s : State) (x : Dl) : (s.setDl x).nu = s.nu := rfl
@[simp] theorem State.setDl_tu (s : State) (x : Dl) : (s.setDl x).tu = s.tu := rfl
@[simp] theorem State.setDl_rr (s : State) (x : Dl) : (s.setDl x).rr = s.rr := rfl
@[simp] theorem State.setDl_dl (s : State) (x : Dl) : (s.setDl x).dl = x := rfl
@[simp] theorem State.setDl_acu (s : State) (x : Dl) : (s.setDl x).acu = s.acu := rfl
@[simp] theorem State.setDl_restartPromised (s : State) (x : Dl) : (s.setDl x).restartPromised = s.restartPromised := rfl
@[simp] theorem State.setDl_freeIndex (s : State) (x : Dl) : (s.setDl x).freeIndex = s.freeIndex := rfl
@[simp] theorem State.setDl_pending (s : State) (x : Dl) : (s.setDl x).pending = s.pending := rfl
@[simp] theorem State.setDl_inRun (s : State) (x : Dl) : (s.setDl x).inRun = s.inRun := rfl
@[simp] theorem State.setDl_serves (s : State) (x : Dl) (d : Col) : (s.setDl x).serves d = s.serves d := rfl
@[simp] theorem State.setDl_cfg (s : State) (x : Dl) : (s.setDl x).cfg = s.cfg := rfl
@[simp] theorem State.setDl_ccfg (s : State) (x : Dl) (d : Col) : (s.setDl x).ccfg d = s.ccfg d := rfl

@[simp] theorem State.setAcu_cl (s : State) (x : Acu) : (s.setAcu x).cl = s.cl := rfl
@[simp] theorem State.setAcu_cc (s : State) (x : Acu) : (s.setAcu x).cc = s.cc := rfl
@[simp] theorem State.setAcu_eu (s : State) (x : Acu) : (s.setAcu x).eu = s.eu := rfl
@[simp] theorem State.setAcu_fe (s : State) (x : Acu) : (s.setAcu x).fe = s.fe := rfl
@[simp] theorem State.setAcu_cd (s : State) (x : Acu) : (s.setAcu x).cd = s.cd := rfl
@[simp] theorem State.setAcu_sc (s : State) (x : Acu) : (s.setAcu x).sc = s.sc := rfl
@[simp] theorem State.setAcu_au (s : State) (x : Acu) : (s.setAcu x).au = s.au := rfl
@[simp] theorem State.setAcu_ru (s : State) (x : Acu) : (s.setAcu x).ru = s.ru := rfl
@[simp] theorem State.setAcu_lc (s : State) (x : Acu) : (s.setAcu x).lc = s.lc := rfl
@[simp] theorem State.setAcu_nu (s : State) (x : Acu) : (s.setAcu x).nu = s.nu := rfl
@[simp] theorem State.setAcu_tu (s : State) (x : Acu) : (s.setAcu x).tu = s.tu := rfl
@[simp] theorem State.setAcu_rr (s : State) (x : Acu) : (s.setAcu x).rr = s.rr := rfl
@[simp] theorem State.setAcu_dl (s : State) (x : Acu) : (s.setAcu x).dl = s.dl := rfl
@[simp] theorem State.setAcu_acu (s : State) (x : Acu) : (s.setAcu x).acu = x := rfl
@[simp] theorem State.setAcu_restartPromised (s : State) (x : Acu) : (s.setAcu x).restartPromised = s.restartPromised := rfl
@[simp] theorem State.setAcu_freeIndex (s : State) (x : Acu) : (s.setAcu x).freeIndex = s.freeIndex := rfl
@[simp] theorem State.setAcu_pending (s : State) (x : Acu) : (s.setAcu x).pending = s.pending := rfl
@[simp] theorem State.setAcu_inRun (s : State) (x : Acu) : (s.setAcu x).inRun = s.inRun := rfl
@[simp] theorem State.setAcu_serves (s : State) (x : Acu) (d : Col) : (s.setAcu x).serves d = s.serves d := rfl
@[simp] theorem State.setAcu_cfg (s : State) (x : Acu) : (s.setAcu x).cfg = s.cfg := rfl
@[simp] theorem State.setAcu_ccfg (s : State) (x : Acu) (d : Col) : (s.setAcu x).ccfg d = s.ccfg d := rfl

@[simp] theorem State.setRr_cl (s : State) (x : Option Rollcall) : (s.setRr x).cl = s.cl := rfl
@[simp] theorem State.setRr_cc (s : State) (x : Option Rollcall) : (s.setRr x).cc = s.cc := rfl
@[simp] theorem State.setRr_eu (s : State) (x : Option Rollcall) : (s.setRr x).eu = s.eu := rfl
@[simp] theorem State.setRr_fe (s : State) (x : Option Rollcall) : (s.setRr x).fe = s.fe := rfl
@[simp] theorem State.setRr_cd (s : State) (x : Option Rollcall) : (s.setRr x).cd = s.cd := rfl
@[simp] theorem State.setRr_sc (s : State) (x : Option Rollcall) : (s.setRr x).sc = s.sc := rfl
@[simp] theorem State.setRr_au (s : State) (x : Option Rollcall) : (s.setRr x).au = s.au := rfl
@[simp] theorem State.setRr_ru (s : State) (x : Option Rollcall) : (s.setRr x).ru = s.ru := rfl
@[simp] theorem State.setRr_lc (s : State) (x : Option Rollcall) : (s.setRr x).lc = s.lc := rfl
@[simp] theorem State.setRr_nu (s : State) (x : Option Rollcall) : (s.setRr x).nu = s.nu := rfl
@[simp] theorem State.setRr_tu (s : State) (x : Option Rollcall) : (s.setRr x).tu = s.tu := rfl
@[simp] theorem State.setRr_rr (s : State) (x : Option Rollcall) : (s.setRr x).rr = x := rfl
@[simp] theorem State.setRr_dl (s : State) (x : Option Rollcall) : (s.setRr x).dl = s.dl := rfl
@[simp] theorem State.setRr_acu (s : State) (x : Option Rollcall) : (s.setRr x).acu = s.acu := rfl
@[simp] theorem State.setRr_restartPromised (s : State) (x : Option Rollcall) : (s.setRr x).restartPromised = s.restartPromised := rfl
@[simp] theorem State.setRr_freeIndex (s : State) (x : Option Rollcall) : (s.setRr x).freeIndex = s.freeIndex := rfl
@[simp] theorem State.setRr_pending (s : State) (x : Option Rollcall) : (s.setRr x).pending = s.pending := rfl
@[simp] theorem State.setRr_inRun (s : State) (x : Option Rollcall) : (s.setRr x).inRun = s.inRun := rfl
@[simp] theorem State.setRr_serves (s : State) (x : Option Rollcall) (d : Col) : (s.setRr x).serves d = s.serves d := rfl
@[simp] theorem State.setRr_cfg (s : State) (x : Option Rollcall) : (s.setRr x).cfg = s.cfg := rfl
@[simp] theorem State.setRr_ccfg (s : State) (x : Option Rollcall) (d : Col) : (s.setRr x).ccfg d = s.ccfg d := rfl

/-! ## What the passage of time leaves -/

/-- Time outside RUN changes nothing. -/
theorem advance_of_not_inRun (s : State) (d : Nat) (h : s.inRun = false) : s.advance d = s := by
  simp [State.advance, h]

/-- Time moves timers alone: these blocks stand. -/
@[simp] theorem advance_frame (s : State) (d : Nat) :
    (s.advance d).cl = s.cl ∧ (s.advance d).fe = s.fe ∧ (s.advance d).cd = s.cd ∧ (s.advance d).sc = s.sc ∧
    (s.advance d).rr = s.rr ∧ (s.advance d).dl = s.dl ∧ (s.advance d).restartPromised = s.restartPromised ∧
    (s.advance d).freeIndex = s.freeIndex ∧ (s.advance d).pending = s.pending := by
  unfold State.advance; split <;> simp

/-- The phase, the columns in use and the configuration are not the business of time. -/
@[simp] theorem advance_phase (s : State) (d : Nat) :
    (s.advance d).inRun = s.inRun ∧ (∀ c, (s.advance d).serves c = s.serves c) ∧ (s.advance d).cfg = s.cfg ∧
    (∀ c, (s.advance d).ccfg c = s.ccfg c) ∧ (∀ c, (s.advance d).inUse c = s.inUse c) := by
  simp [State.inRun, State.serves, State.inUse, State.cfg, State.ccfg]

/-- The fields of CC that time does not move. -/
@[simp] theorem advance_cc (s : State) (d : Nat) (c : Col) :
    ((s.advance d).cc.get c).state = (s.cc.get c).state ∧ ((s.advance d).cc.get c).drum = (s.cc.get c).drum ∧
    ((s.advance d).cc.get c).sense = (s.cc.get c).sense ∧ ((s.advance d).cc.get c).present = (s.cc.get c).present ∧
    ((s.advance d).cc.get c).drive = (s.cc.get c).drive ∧
    ((s.advance d).cc.get c).pendingEnd = (s.cc.get c).pendingEnd ∧
    ((s.advance d).cc.get c).waitingRound = (s.cc.get c).waitingRound ∧
    ((s.advance d).cc.get c).roundId = (s.cc.get c).roundId ∧
    ((s.advance d).cc.get c).lastEmptied = (s.cc.get c).lastEmptied ∧
    ((s.advance d).cc.get c).fillBefore = (s.cc.get c).fillBefore ∧
    ((s.advance d).cc.get c).settleFailures = (s.cc.get c).settleFailures ∧
    ((s.advance d).cc.get c).depositsE = (s.cc.get c).depositsE ∧ ((s.advance d).cc.get c).cls = (s.cc.get c).cls ∧
    ((s.advance d).cc.get c).drumSettled = (s.cc.get c).drumSettled ∧
    ((s.advance d).cc.get c).senseSettled = (s.cc.get c).senseSettled ∧
    ((s.advance d).cc.get c).presentSettled = (s.cc.get c).presentSettled := by
  unfold State.advance; split <;> simp [Cc.advance]

/-- Time does not start or stop a timer. -/
@[simp] theorem Timer.advance_running (t : Timer) (dt limit : Nat) : (t.advance dt limit).running = t.running := by
  unfold Timer.advance; split <;> rfl

/-- Whether CC's timers run is not the business of time. -/
@[simp] theorem advance_cc_running (s : State) (d : Nat) (c : Col) :
    ((s.advance d).cc.get c).confirm.running = (s.cc.get c).confirm.running ∧
    ((s.advance d).cc.get c).drumTimer.running = (s.cc.get c).drumTimer.running ∧
    ((s.advance d).cc.get c).hold.running = (s.cc.get c).hold.running ∧
    ((s.advance d).cc.get c).lift.running = (s.cc.get c).lift.running := by
  unfold State.advance; split <;> simp [Cc.advance]

/-- The fields of EU, AU, RU, NU, TU and ACU that time does not move. -/
@[simp] theorem advance_blocks (s : State) (d : Nat) (c : Col) :
    ((s.advance d).eu.cols.get c).request = (s.eu.cols.get c).request ∧
    ((s.advance d).eu.cols.get c).periodic.running = (s.eu.cols.get c).periodic.running ∧
    ((s.advance d).eu.cols.get c).settle.running = (s.eu.cols.get c).settle.running ∧
    ((s.advance d).eu.cols.get c).ret.running = (s.eu.cols.get c).ret.running ∧
    (s.advance d).eu.temperature = s.eu.temperature ∧ (s.advance d).eu.pointer = s.eu.pointer ∧
    ((s.advance d).au.get c).last = (s.au.get c).last ∧ ((s.advance d).au.get c).waiting = (s.au.get c).waiting ∧
    ((s.advance d).au.get c).sending = (s.au.get c).sending ∧
    (s.advance d).ru.list = s.ru.list ∧ (s.advance d).ru.mark = s.ru.mark ∧ (s.advance d).ru.base = s.ru.base ∧
    (s.advance d).ru.wanted = s.ru.wanted ∧ (s.advance d).ru.gapMark = s.ru.gapMark ∧
    (s.advance d).nu.table = s.nu.table ∧ (s.advance d).nu.seq = s.nu.seq ∧ (s.advance d).nu.early = s.nu.early ∧
    (s.advance d).tu.clock = s.tu.clock ∧ (s.advance d).tu.hops = s.tu.hops ∧ (s.advance d).tu.period = s.tu.period ∧
    (s.advance d).acu.levels = s.acu.levels ∧ (s.advance d).acu.pending = s.acu.pending ∧
    (s.advance d).acu.latch = s.acu.latch ∧ (s.advance d).acu.live = s.acu.live ∧
    (s.advance d).acu.copies = s.acu.copies := by
  unfold State.advance; split <;> simp [EuCol.advance, Au.advance]

/-- The fields of LC that time does not move. -/
@[simp] theorem advance_lc (s : State) (d : Nat) :
    (s.advance d).lc.access = s.lc.access ∧ (s.advance d).lc.phase = s.lc.phase ∧ (s.advance d).lc.busy = s.lc.busy ∧
    (s.advance d).lc.preamble = s.lc.preamble ∧ (s.advance d).lc.rx = s.lc.rx ∧ (s.advance d).lc.margin = s.lc.margin ∧
    (s.advance d).lc.tag = s.lc.tag ∧ (s.advance d).lc.arrivals = s.lc.arrivals ∧
    (s.advance d).lc.lineOut = s.lc.lineOut ∧ (s.advance d).lc.queue.length = s.lc.queue.length ∧
    (s.advance d).lc.silence.running = s.lc.silence.running ∧
    (s.advance d).lc.window.isSome = s.lc.window.isSome := by
  unfold State.advance; split <;> simp [Lc.advance]

end Sys2Proof.Machine
end

