-- ==== Sys2Proof/Laws/Frames.lean ====
section
/-! SUPPORT. What each shared operation leaves: one lemma per operation names every block that it does not touch. -/

namespace Sys2Proof.Machine

@[simp] theorem addCount_frame (k : Counter) (n : Nat) (s : State) :
    (addCount k n s).cl = s.cl ∧ (addCount k n s).cc = s.cc ∧ (addCount k n s).eu = s.eu ∧ (addCount k n s).fe = s.fe ∧
    (addCount k n s).cd = s.cd ∧ (addCount k n s).sc = s.sc ∧ (addCount k n s).au = s.au ∧ (addCount k n s).ru = s.ru ∧
    (addCount k n s).lc = s.lc ∧ (addCount k n s).nu = s.nu ∧ (addCount k n s).tu = s.tu ∧ (addCount k n s).rr = s.rr ∧
    (addCount k n s).dl = s.dl ∧ (addCount k n s).restartPromised = s.restartPromised ∧
    (addCount k n s).freeIndex = s.freeIndex ∧ (addCount k n s).pending = s.pending := by
  simp [addCount]

@[simp] theorem setPending_frame (k : Cond) (c : Col) (s : State) :
    (setPending k c s).cl = s.cl ∧ (setPending k c s).cc = s.cc ∧ (setPending k c s).eu = s.eu ∧
    (setPending k c s).fe = s.fe ∧ (setPending k c s).cd = s.cd ∧ (setPending k c s).sc = s.sc ∧
    (setPending k c s).au = s.au ∧ (setPending k c s).ru = s.ru ∧ (setPending k c s).lc = s.lc ∧
    (setPending k c s).nu = s.nu ∧ (setPending k c s).tu = s.tu ∧ (setPending k c s).rr = s.rr ∧
    (setPending k c s).dl = s.dl ∧ (setPending k c s).restartPromised = s.restartPromised ∧
    (setPending k c s).freeIndex = s.freeIndex ∧ (setPending k c s).pending = s.pending := by
  simp [setPending]

@[simp] theorem placeFrame_frame (f : TxFrame) (s : State) :
    (placeFrame f s).cl = s.cl ∧ (placeFrame f s).cc = s.cc ∧ (placeFrame f s).eu = s.eu ∧ (placeFrame f s).fe = s.fe ∧
    (placeFrame f s).cd = s.cd ∧ (placeFrame f s).sc = s.sc ∧ (placeFrame f s).au = s.au ∧ (placeFrame f s).ru = s.ru ∧
    (placeFrame f s).nu = s.nu ∧ (placeFrame f s).tu = s.tu ∧ (placeFrame f s).rr = s.rr ∧ (placeFrame f s).dl = s.dl ∧
    (placeFrame f s).restartPromised = s.restartPromised ∧ (placeFrame f s).freeIndex = s.freeIndex ∧
    (placeFrame f s).pending = s.pending := by
  unfold placeFrame
  (repeat' split) <;> simp

@[simp] theorem offerAlarm_frame (s : State) :
    (offerAlarm s).cl = s.cl ∧ (offerAlarm s).cc = s.cc ∧ (offerAlarm s).eu = s.eu ∧ (offerAlarm s).fe = s.fe ∧
    (offerAlarm s).cd = s.cd ∧ (offerAlarm s).sc = s.sc ∧ (offerAlarm s).au = s.au ∧ (offerAlarm s).ru = s.ru ∧
    (offerAlarm s).nu = s.nu ∧ (offerAlarm s).tu = s.tu ∧ (offerAlarm s).rr = s.rr ∧ (offerAlarm s).dl = s.dl ∧
    (offerAlarm s).restartPromised = s.restartPromised ∧ (offerAlarm s).freeIndex = s.freeIndex ∧
    (offerAlarm s).pending = s.pending := by
  unfold offerAlarm
  (repeat' split) <;> simp

@[simp] theorem counterFullByAlarm_frame (s : State) :
    (counterFullByAlarm s).cl = s.cl ∧ (counterFullByAlarm s).cc = s.cc ∧ (counterFullByAlarm s).eu = s.eu ∧
    (counterFullByAlarm s).fe = s.fe ∧ (counterFullByAlarm s).cd = s.cd ∧ (counterFullByAlarm s).sc = s.sc ∧
    (counterFullByAlarm s).au = s.au ∧ (counterFullByAlarm s).ru = s.ru ∧ (counterFullByAlarm s).nu = s.nu ∧
    (counterFullByAlarm s).tu = s.tu ∧ (counterFullByAlarm s).rr = s.rr ∧ (counterFullByAlarm s).dl = s.dl ∧
    (counterFullByAlarm s).restartPromised = s.restartPromised ∧ (counterFullByAlarm s).freeIndex = s.freeIndex ∧
    (counterFullByAlarm s).pending = s.pending := by
  unfold counterFullByAlarm
  (repeat' split) <;> simp

@[simp] theorem announce_frame (s : State) :
    (announce s).cl = s.cl ∧ (announce s).cc = s.cc ∧ (announce s).eu = s.eu ∧ (announce s).fe = s.fe ∧
    (announce s).cd = s.cd ∧ (announce s).sc = s.sc ∧ (announce s).au = s.au ∧ (announce s).ru = s.ru ∧
    (announce s).nu = s.nu ∧ (announce s).tu = s.tu ∧ (announce s).rr = s.rr ∧ (announce s).dl = s.dl ∧
    (announce s).restartPromised = s.restartPromised ∧ (announce s).freeIndex = s.freeIndex ∧
    (announce s).pending = s.pending := by
  simp only [announce]
  split <;> simp

@[simp] theorem takeEdge_frame (k : Cond) (c : Col) (rise : Bool) (s : State) :
    (takeEdge k c rise s).cl = s.cl ∧ (takeEdge k c rise s).cc = s.cc ∧ (takeEdge k c rise s).eu = s.eu ∧
    (takeEdge k c rise s).fe = s.fe ∧ (takeEdge k c rise s).cd = s.cd ∧ (takeEdge k c rise s).sc = s.sc ∧
    (takeEdge k c rise s).au = s.au ∧ (takeEdge k c rise s).ru = s.ru ∧ (takeEdge k c rise s).nu = s.nu ∧
    (takeEdge k c rise s).tu = s.tu ∧ (takeEdge k c rise s).rr = s.rr ∧ (takeEdge k c rise s).dl = s.dl ∧
    (takeEdge k c rise s).restartPromised = s.restartPromised ∧ (takeEdge k c rise s).freeIndex = s.freeIndex ∧
    (takeEdge k c rise s).pending = s.pending := by
  unfold takeEdge
  (repeat' split) <;> simp

@[simp] theorem raise_frame (k : Cond) (c : Col) (s : State) :
    (raise k c s).cl = s.cl ∧ (raise k c s).cc = s.cc ∧ (raise k c s).eu = s.eu ∧ (raise k c s).fe = s.fe ∧
    (raise k c s).cd = s.cd ∧ (raise k c s).sc = s.sc ∧ (raise k c s).au = s.au ∧ (raise k c s).ru = s.ru ∧
    (raise k c s).nu = s.nu ∧ (raise k c s).tu = s.tu ∧ (raise k c s).rr = s.rr ∧ (raise k c s).dl = s.dl ∧
    (raise k c s).restartPromised = s.restartPromised ∧ (raise k c s).freeIndex = s.freeIndex ∧
    (raise k c s).pending = s.pending := by
  unfold raise
  (repeat' split) <;> simp

@[simp] theorem lower_frame (k : Cond) (c : Col) (s : State) :
    (lower k c s).cl = s.cl ∧ (lower k c s).cc = s.cc ∧ (lower k c s).eu = s.eu ∧ (lower k c s).fe = s.fe ∧
    (lower k c s).cd = s.cd ∧ (lower k c s).sc = s.sc ∧ (lower k c s).au = s.au ∧ (lower k c s).ru = s.ru ∧
    (lower k c s).nu = s.nu ∧ (lower k c s).tu = s.tu ∧ (lower k c s).rr = s.rr ∧ (lower k c s).dl = s.dl ∧
    (lower k c s).restartPromised = s.restartPromised ∧ (lower k c s).freeIndex = s.freeIndex ∧
    (lower k c s).pending = s.pending := by
  unfold lower
  (repeat' split) <;> simp

@[simp] theorem occur_frame (k : Cond) (c : Col) (s : State) :
    (occur k c s).cl = s.cl ∧ (occur k c s).cc = s.cc ∧ (occur k c s).eu = s.eu ∧ (occur k c s).fe = s.fe ∧
    (occur k c s).cd = s.cd ∧ (occur k c s).sc = s.sc ∧ (occur k c s).au = s.au ∧ (occur k c s).ru = s.ru ∧
    (occur k c s).nu = s.nu ∧ (occur k c s).tu = s.tu ∧ (occur k c s).rr = s.rr ∧ (occur k c s).dl = s.dl ∧
    (occur k c s).restartPromised = s.restartPromised ∧ (occur k c s).freeIndex = s.freeIndex ∧
    (occur k c s).pending = s.pending := by
  unfold occur
  (repeat' split) <;> simp

@[simp] theorem count_frame (k : Counter) (n : Nat) (s : State) :
    (count k n s).cl = s.cl ∧ (count k n s).cc = s.cc ∧ (count k n s).eu = s.eu ∧ (count k n s).fe = s.fe ∧
    (count k n s).cd = s.cd ∧ (count k n s).sc = s.sc ∧ (count k n s).au = s.au ∧ (count k n s).ru = s.ru ∧
    (count k n s).nu = s.nu ∧ (count k n s).tu = s.tu ∧ (count k n s).rr = s.rr ∧ (count k n s).dl = s.dl ∧
    (count k n s).restartPromised = s.restartPromised ∧ (count k n s).freeIndex = s.freeIndex ∧
    (count k n s).pending = s.pending := by
  unfold count
  (repeat' split) <;> simp

@[simp] theorem offer_frame (f : TxFrame) (s : State) :
    (offer f s).cl = s.cl ∧ (offer f s).cc = s.cc ∧ (offer f s).eu = s.eu ∧ (offer f s).fe = s.fe ∧ (offer f s).cd = s.cd ∧
    (offer f s).sc = s.sc ∧ (offer f s).au = s.au ∧ (offer f s).ru = s.ru ∧ (offer f s).nu = s.nu ∧ (offer f s).tu = s.tu ∧
    (offer f s).rr = s.rr ∧ (offer f s).dl = s.dl ∧ (offer f s).restartPromised = s.restartPromised ∧
    (offer f s).freeIndex = s.freeIndex ∧ (offer f s).pending = s.pending := by
  simp only [offer]
  split <;> simp

@[simp] theorem reply_frame (k : Kind) (f : RxFrame) (payload : List Byte) (s : State) :
    (reply k f payload s).cl = s.cl ∧ (reply k f payload s).cc = s.cc ∧ (reply k f payload s).eu = s.eu ∧
    (reply k f payload s).fe = s.fe ∧ (reply k f payload s).cd = s.cd ∧ (reply k f payload s).sc = s.sc ∧
    (reply k f payload s).au = s.au ∧ (reply k f payload s).ru = s.ru ∧ (reply k f payload s).nu = s.nu ∧
    (reply k f payload s).tu = s.tu ∧ (reply k f payload s).rr = s.rr ∧ (reply k f payload s).dl = s.dl ∧
    (reply k f payload s).restartPromised = s.restartPromised ∧ (reply k f payload s).freeIndex = s.freeIndex ∧
    (reply k f payload s).pending = s.pending := by
  simp [reply]

@[simp] theorem performSnapshot_frame (s : State) :
    (performSnapshot s).cl = s.cl ∧ (performSnapshot s).cc = s.cc ∧ (performSnapshot s).eu = s.eu ∧
    (performSnapshot s).fe = s.fe ∧ (performSnapshot s).cd = s.cd ∧ (performSnapshot s).sc = s.sc ∧
    (performSnapshot s).au = s.au ∧ (performSnapshot s).ru = s.ru ∧ (performSnapshot s).lc = s.lc ∧
    (performSnapshot s).nu = s.nu ∧ (performSnapshot s).tu = s.tu ∧ (performSnapshot s).rr = s.rr ∧
    (performSnapshot s).dl = s.dl ∧ (performSnapshot s).restartPromised = s.restartPromised ∧
    (performSnapshot s).freeIndex = s.freeIndex ∧ (performSnapshot s).pending = s.pending := by
  simp [performSnapshot]

@[simp] theorem hearFrame_frame (f : RxFrame) (s : State) :
    (hearFrame f s).cl = s.cl ∧ (hearFrame f s).cc = s.cc ∧ (hearFrame f s).eu = s.eu ∧ (hearFrame f s).fe = s.fe ∧
    (hearFrame f s).cd = s.cd ∧ (hearFrame f s).sc = s.sc ∧ (hearFrame f s).au = s.au ∧ (hearFrame f s).ru = s.ru ∧
    (hearFrame f s).nu = s.nu ∧ (hearFrame f s).tu = s.tu ∧ (hearFrame f s).rr = s.rr ∧ (hearFrame f s).dl = s.dl ∧
    (hearFrame f s).restartPromised = s.restartPromised ∧ (hearFrame f s).freeIndex = s.freeIndex ∧
    (hearFrame f s).pending = s.pending := by
  simp [hearFrame]

@[simp] theorem endReception_frame (s : State) :
    (endReception s).cl = s.cl ∧ (endReception s).cc = s.cc ∧ (endReception s).eu = s.eu ∧ (endReception s).fe = s.fe ∧
    (endReception s).cd = s.cd ∧ (endReception s).sc = s.sc ∧ (endReception s).au = s.au ∧ (endReception s).ru = s.ru ∧
    (endReception s).nu = s.nu ∧ (endReception s).tu = s.tu ∧ (endReception s).rr = s.rr ∧ (endReception s).dl = s.dl ∧
    (endReception s).acu = s.acu ∧ (endReception s).restartPromised = s.restartPromised ∧
    (endReception s).freeIndex = s.freeIndex ∧ (endReception s).pending = s.pending := by
  simp [endReception]

@[simp] theorem beginWrite_frame (s : State) :
    (beginWrite s).cl = s.cl ∧ (beginWrite s).cc = s.cc ∧ (beginWrite s).eu = s.eu ∧ (beginWrite s).fe = s.fe ∧
    (beginWrite s).cd = s.cd ∧ (beginWrite s).au = s.au ∧ (beginWrite s).ru = s.ru ∧ (beginWrite s).lc = s.lc ∧
    (beginWrite s).nu = s.nu ∧ (beginWrite s).tu = s.tu ∧ (beginWrite s).rr = s.rr ∧ (beginWrite s).dl = s.dl ∧
    (beginWrite s).acu = s.acu ∧ (beginWrite s).restartPromised = s.restartPromised ∧
    (beginWrite s).freeIndex = s.freeIndex ∧ (beginWrite s).pending = s.pending := by
  unfold beginWrite
  (repeat' split) <;> simp

@[simp] theorem placeItems_frame (items : List StoreItem) (s : State) :
    (placeItems items s).cl = s.cl ∧ (placeItems items s).cc = s.cc ∧ (placeItems items s).eu = s.eu ∧
    (placeItems items s).fe = s.fe ∧ (placeItems items s).cd = s.cd ∧ (placeItems items s).au = s.au ∧
    (placeItems items s).ru = s.ru ∧ (placeItems items s).lc = s.lc ∧ (placeItems items s).nu = s.nu ∧
    (placeItems items s).tu = s.tu ∧ (placeItems items s).rr = s.rr ∧ (placeItems items s).dl = s.dl ∧
    (placeItems items s).acu = s.acu ∧ (placeItems items s).restartPromised = s.restartPromised ∧
    (placeItems items s).freeIndex = s.freeIndex ∧ (placeItems items s).pending = s.pending := by
  simp [placeItems]

@[simp] theorem offerRecord_frame (c : Col) (e : Nat) (body : LogBody) (s : State) :
    (offerRecord c e body s).cl = s.cl ∧ (offerRecord c e body s).cc = s.cc ∧ (offerRecord c e body s).eu = s.eu ∧
    (offerRecord c e body s).fe = s.fe ∧ (offerRecord c e body s).cd = s.cd ∧ (offerRecord c e body s).au = s.au ∧
    (offerRecord c e body s).ru = s.ru ∧ (offerRecord c e body s).nu = s.nu ∧ (offerRecord c e body s).tu = s.tu ∧
    (offerRecord c e body s).rr = s.rr ∧ (offerRecord c e body s).restartPromised = s.restartPromised ∧
    (offerRecord c e body s).freeIndex = s.freeIndex ∧ (offerRecord c e body s).pending = s.pending := by
  simp only [offerRecord]
  split <;> simp

@[simp] theorem setWay_frame (slot : Nat) (w : DirWay) (s : State) :
    (setWay slot w s).cl = s.cl ∧ (setWay slot w s).cc = s.cc ∧ (setWay slot w s).eu = s.eu ∧ (setWay slot w s).fe = s.fe ∧
    (setWay slot w s).sc = s.sc ∧ (setWay slot w s).au = s.au ∧ (setWay slot w s).ru = s.ru ∧ (setWay slot w s).lc = s.lc ∧
    (setWay slot w s).nu = s.nu ∧ (setWay slot w s).tu = s.tu ∧ (setWay slot w s).rr = s.rr ∧ (setWay slot w s).dl = s.dl ∧
    (setWay slot w s).acu = s.acu ∧ (setWay slot w s).restartPromised = s.restartPromised ∧
    (setWay slot w s).freeIndex = s.freeIndex ∧ (setWay slot w s).pending = s.pending := by
  simp [setWay]

@[simp] theorem countUsage_frame (card : Word32) (s : State) :
    (countUsage card s).cl = s.cl ∧ (countUsage card s).cc = s.cc ∧ (countUsage card s).eu = s.eu ∧
    (countUsage card s).fe = s.fe ∧ (countUsage card s).sc = s.sc ∧ (countUsage card s).au = s.au ∧
    (countUsage card s).ru = s.ru ∧ (countUsage card s).lc = s.lc ∧ (countUsage card s).nu = s.nu ∧
    (countUsage card s).tu = s.tu ∧ (countUsage card s).rr = s.rr ∧ (countUsage card s).dl = s.dl ∧
    (countUsage card s).acu = s.acu ∧ (countUsage card s).restartPromised = s.restartPromised ∧
    (countUsage card s).freeIndex = s.freeIndex ∧ (countUsage card s).pending = s.pending := by
  unfold countUsage
  (repeat' split) <;> simp

@[simp] theorem zeroUsage_frame (s : State) :
    (zeroUsage s).cl = s.cl ∧ (zeroUsage s).cc = s.cc ∧ (zeroUsage s).eu = s.eu ∧ (zeroUsage s).fe = s.fe ∧
    (zeroUsage s).sc = s.sc ∧ (zeroUsage s).au = s.au ∧ (zeroUsage s).ru = s.ru ∧ (zeroUsage s).lc = s.lc ∧
    (zeroUsage s).nu = s.nu ∧ (zeroUsage s).tu = s.tu ∧ (zeroUsage s).rr = s.rr ∧ (zeroUsage s).dl = s.dl ∧
    (zeroUsage s).acu = s.acu ∧ (zeroUsage s).restartPromised = s.restartPromised ∧ (zeroUsage s).freeIndex = s.freeIndex ∧
    (zeroUsage s).pending = s.pending := by
  simp [zeroUsage]

@[simp] theorem offerBeacon_frame (s : State) :
    (offerBeacon s).cl = s.cl ∧ (offerBeacon s).cc = s.cc ∧ (offerBeacon s).eu = s.eu ∧ (offerBeacon s).fe = s.fe ∧
    (offerBeacon s).cd = s.cd ∧ (offerBeacon s).sc = s.sc ∧ (offerBeacon s).au = s.au ∧ (offerBeacon s).ru = s.ru ∧
    (offerBeacon s).tu = s.tu ∧ (offerBeacon s).rr = s.rr ∧ (offerBeacon s).dl = s.dl ∧
    (offerBeacon s).restartPromised = s.restartPromised ∧ (offerBeacon s).pending = s.pending := by
  simp only [offerBeacon, drawUpTo]
  split <;> simp

@[simp] theorem summaryChange_frame (s : State) :
    (summaryChange s).cl = s.cl ∧ (summaryChange s).cc = s.cc ∧ (summaryChange s).eu = s.eu ∧ (summaryChange s).fe = s.fe ∧
    (summaryChange s).cd = s.cd ∧ (summaryChange s).sc = s.sc ∧ (summaryChange s).au = s.au ∧ (summaryChange s).ru = s.ru ∧
    (summaryChange s).tu = s.tu ∧ (summaryChange s).rr = s.rr ∧ (summaryChange s).dl = s.dl ∧
    (summaryChange s).restartPromised = s.restartPromised ∧ (summaryChange s).pending = s.pending := by
  unfold summaryChange
  (repeat' split) <;> simp

@[simp] theorem indicate_frame (c : Col) (i : Indication) (s : State) :
    (indicate c i s).cl = s.cl ∧ (indicate c i s).cc = s.cc ∧ (indicate c i s).eu = s.eu ∧ (indicate c i s).fe = s.fe ∧
    (indicate c i s).cd = s.cd ∧ (indicate c i s).sc = s.sc ∧ (indicate c i s).ru = s.ru ∧ (indicate c i s).lc = s.lc ∧
    (indicate c i s).nu = s.nu ∧ (indicate c i s).tu = s.tu ∧ (indicate c i s).rr = s.rr ∧ (indicate c i s).dl = s.dl ∧
    (indicate c i s).acu = s.acu ∧ (indicate c i s).restartPromised = s.restartPromised ∧
    (indicate c i s).freeIndex = s.freeIndex ∧ (indicate c i s).pending = s.pending := by
  simp [indicate]

@[simp] theorem repeatLast_frame (c : Col) (s : State) :
    (repeatLast c s).cl = s.cl ∧ (repeatLast c s).cc = s.cc ∧ (repeatLast c s).eu = s.eu ∧ (repeatLast c s).fe = s.fe ∧
    (repeatLast c s).cd = s.cd ∧ (repeatLast c s).sc = s.sc ∧ (repeatLast c s).ru = s.ru ∧ (repeatLast c s).lc = s.lc ∧
    (repeatLast c s).nu = s.nu ∧ (repeatLast c s).tu = s.tu ∧ (repeatLast c s).rr = s.rr ∧ (repeatLast c s).dl = s.dl ∧
    (repeatLast c s).acu = s.acu ∧ (repeatLast c s).restartPromised = s.restartPromised ∧
    (repeatLast c s).freeIndex = s.freeIndex ∧ (repeatLast c s).pending = s.pending := by
  simp [repeatLast]

@[simp] theorem setWindow_frame (c : Col) (w : Timer → Timer) (s : State) :
    (setWindow c w s).cl = s.cl ∧ (setWindow c w s).cc = s.cc ∧ (setWindow c w s).eu = s.eu ∧ (setWindow c w s).fe = s.fe ∧
    (setWindow c w s).cd = s.cd ∧ (setWindow c w s).sc = s.sc ∧ (setWindow c w s).ru = s.ru ∧ (setWindow c w s).lc = s.lc ∧
    (setWindow c w s).nu = s.nu ∧ (setWindow c w s).tu = s.tu ∧ (setWindow c w s).rr = s.rr ∧ (setWindow c w s).dl = s.dl ∧
    (setWindow c w s).acu = s.acu ∧ (setWindow c w s).restartPromised = s.restartPromised ∧
    (setWindow c w s).freeIndex = s.freeIndex ∧ (setWindow c w s).pending = s.pending := by
  simp [setWindow]

@[simp] theorem grantEnded_frame (c : Col) (r : EndReason) (s : State) :
    (grantEnded c r s).cl = s.cl ∧ (grantEnded c r s).cc = s.cc ∧ (grantEnded c r s).eu = s.eu ∧
    (grantEnded c r s).fe = s.fe ∧ (grantEnded c r s).cd = s.cd ∧ (grantEnded c r s).ru = s.ru ∧
    (grantEnded c r s).nu = s.nu ∧ (grantEnded c r s).tu = s.tu ∧ (grantEnded c r s).rr = s.rr ∧
    (grantEnded c r s).restartPromised = s.restartPromised ∧ (grantEnded c r s).freeIndex = s.freeIndex ∧
    (grantEnded c r s).pending = s.pending := by
  unfold grantEnded
  split <;> simp

@[simp] theorem countCycle_frame (c : Col) (s : State) :
    (countCycle c s).cl = s.cl ∧ (countCycle c s).cc = s.cc ∧ (countCycle c s).eu = s.eu ∧ (countCycle c s).fe = s.fe ∧
    (countCycle c s).sc = s.sc ∧ (countCycle c s).ru = s.ru ∧ (countCycle c s).lc = s.lc ∧ (countCycle c s).nu = s.nu ∧
    (countCycle c s).tu = s.tu ∧ (countCycle c s).rr = s.rr ∧ (countCycle c s).dl = s.dl ∧ (countCycle c s).acu = s.acu ∧
    (countCycle c s).restartPromised = s.restartPromised ∧ (countCycle c s).freeIndex = s.freeIndex ∧
    (countCycle c s).pending = s.pending := by
  unfold countCycle
  split
  · simp
  · dsimp only
    split <;> simp

@[simp] theorem setDrive_frame (c : Col) (d : Drive) (s : State) :
    (setDrive c d s).cl = s.cl ∧ (setDrive c d s).eu = s.eu ∧ (setDrive c d s).fe = s.fe ∧ (setDrive c d s).cd = s.cd ∧
    (setDrive c d s).sc = s.sc ∧ (setDrive c d s).au = s.au ∧ (setDrive c d s).ru = s.ru ∧ (setDrive c d s).nu = s.nu ∧
    (setDrive c d s).tu = s.tu ∧ (setDrive c d s).rr = s.rr ∧ (setDrive c d s).dl = s.dl ∧
    (setDrive c d s).restartPromised = s.restartPromised ∧ (setDrive c d s).freeIndex = s.freeIndex ∧
    (setDrive c d s).pending = s.pending := by
  simp only [setDrive]
  (repeat' split) <;> simp

@[simp] theorem enterState_frame (c : Col) (st : CcState) (s : State) :
    (enterState c st s).cl = s.cl ∧ (enterState c st s).eu = s.eu ∧ (enterState c st s).fe = s.fe ∧
    (enterState c st s).cd = s.cd ∧ (enterState c st s).sc = s.sc ∧ (enterState c st s).au = s.au ∧
    (enterState c st s).ru = s.ru ∧ (enterState c st s).tu = s.tu ∧ (enterState c st s).rr = s.rr ∧
    (enterState c st s).dl = s.dl ∧ (enterState c st s).restartPromised = s.restartPromised ∧
    (enterState c st s).pending = s.pending := by
  simp only [enterState]
  split <;> simp

@[simp] theorem goByClass_frame (c : Col) (s : State) :
    (goByClass c s).cl = s.cl ∧ (goByClass c s).eu = s.eu ∧ (goByClass c s).fe = s.fe ∧ (goByClass c s).cd = s.cd ∧
    (goByClass c s).sc = s.sc ∧ (goByClass c s).au = s.au ∧ (goByClass c s).ru = s.ru ∧ (goByClass c s).tu = s.tu ∧
    (goByClass c s).rr = s.rr ∧ (goByClass c s).dl = s.dl ∧ (goByClass c s).restartPromised = s.restartPromised ∧
    (goByClass c s).pending = s.pending := by
  simp [goByClass]

@[simp] theorem leaveFault_frame (c : Col) (s : State) :
    (leaveFault c s).cl = s.cl ∧ (leaveFault c s).eu = s.eu ∧ (leaveFault c s).fe = s.fe ∧ (leaveFault c s).cd = s.cd ∧
    (leaveFault c s).sc = s.sc ∧ (leaveFault c s).au = s.au ∧ (leaveFault c s).ru = s.ru ∧ (leaveFault c s).tu = s.tu ∧
    (leaveFault c s).rr = s.rr ∧ (leaveFault c s).dl = s.dl ∧ (leaveFault c s).restartPromised = s.restartPromised ∧
    (leaveFault c s).pending = s.pending := by
  simp only [leaveFault]
  split <;> simp

@[simp] theorem goFault_frame (c : Col) (s : State) :
    (goFault c s).cl = s.cl ∧ (goFault c s).eu = s.eu ∧ (goFault c s).fe = s.fe ∧ (goFault c s).cd = s.cd ∧
    (goFault c s).sc = s.sc ∧ (goFault c s).au = s.au ∧ (goFault c s).ru = s.ru ∧ (goFault c s).tu = s.tu ∧
    (goFault c s).rr = s.rr ∧ (goFault c s).dl = s.dl ∧ (goFault c s).restartPromised = s.restartPromised ∧
    (goFault c s).pending = s.pending := by
  simp [goFault]

@[simp] theorem discardSettleFailures_frame (c : Col) (s : State) :
    (discardSettleFailures c s).cl = s.cl ∧ (discardSettleFailures c s).eu = s.eu ∧
    (discardSettleFailures c s).fe = s.fe ∧ (discardSettleFailures c s).cd = s.cd ∧
    (discardSettleFailures c s).sc = s.sc ∧ (discardSettleFailures c s).au = s.au ∧
    (discardSettleFailures c s).ru = s.ru ∧ (discardSettleFailures c s).lc = s.lc ∧
    (discardSettleFailures c s).nu = s.nu ∧ (discardSettleFailures c s).tu = s.tu ∧
    (discardSettleFailures c s).rr = s.rr ∧ (discardSettleFailures c s).dl = s.dl ∧
    (discardSettleFailures c s).acu = s.acu ∧ (discardSettleFailures c s).restartPromised = s.restartPromised ∧
    (discardSettleFailures c s).freeIndex = s.freeIndex ∧ (discardSettleFailures c s).pending = s.pending := by
  simp [discardSettleFailures]

@[simp] theorem dropClaim_frame (c : Col) (s : State) :
    (dropClaim c s).cl = s.cl ∧ (dropClaim c s).eu = s.eu ∧ (dropClaim c s).fe = s.fe ∧ (dropClaim c s).cd = s.cd ∧
    (dropClaim c s).sc = s.sc ∧ (dropClaim c s).au = s.au ∧ (dropClaim c s).ru = s.ru ∧ (dropClaim c s).lc = s.lc ∧
    (dropClaim c s).nu = s.nu ∧ (dropClaim c s).tu = s.tu ∧ (dropClaim c s).rr = s.rr ∧ (dropClaim c s).dl = s.dl ∧
    (dropClaim c s).acu = s.acu ∧ (dropClaim c s).restartPromised = s.restartPromised ∧
    (dropClaim c s).freeIndex = s.freeIndex ∧ (dropClaim c s).pending = s.pending := by
  simp [dropClaim]

@[simp] theorem enterHeld_frame (c : Col) (r : Word16) (s : State) :
    (enterHeld c r s).cl = s.cl ∧ (enterHeld c r s).eu = s.eu ∧ (enterHeld c r s).fe = s.fe ∧ (enterHeld c r s).cd = s.cd ∧
    (enterHeld c r s).sc = s.sc ∧ (enterHeld c r s).au = s.au ∧ (enterHeld c r s).ru = s.ru ∧ (enterHeld c r s).tu = s.tu ∧
    (enterHeld c r s).rr = s.rr ∧ (enterHeld c r s).dl = s.dl ∧ (enterHeld c r s).restartPromised = s.restartPromised ∧
    (enterHeld c r s).pending = s.pending := by
  simp [enterHeld]

@[simp] theorem grantFieldsCleared_frame (c : Col) (s : State) :
    (grantFieldsCleared c s).cl = s.cl ∧ (grantFieldsCleared c s).eu = s.eu ∧ (grantFieldsCleared c s).fe = s.fe ∧
    (grantFieldsCleared c s).cd = s.cd ∧ (grantFieldsCleared c s).sc = s.sc ∧ (grantFieldsCleared c s).au = s.au ∧
    (grantFieldsCleared c s).ru = s.ru ∧ (grantFieldsCleared c s).lc = s.lc ∧ (grantFieldsCleared c s).nu = s.nu ∧
    (grantFieldsCleared c s).tu = s.tu ∧ (grantFieldsCleared c s).rr = s.rr ∧ (grantFieldsCleared c s).dl = s.dl ∧
    (grantFieldsCleared c s).acu = s.acu ∧ (grantFieldsCleared c s).restartPromised = s.restartPromised ∧
    (grantFieldsCleared c s).freeIndex = s.freeIndex ∧ (grantFieldsCleared c s).pending = s.pending := by
  simp [grantFieldsCleared]

@[simp] theorem endGrant_frame (c : Col) (r : EndReason) (s : State) :
    (endGrant c r s).cl = s.cl ∧ (endGrant c r s).eu = s.eu ∧ (endGrant c r s).fe = s.fe ∧ (endGrant c r s).cd = s.cd ∧
    (endGrant c r s).ru = s.ru ∧ (endGrant c r s).tu = s.tu ∧ (endGrant c r s).rr = s.rr ∧
    (endGrant c r s).restartPromised = s.restartPromised ∧ (endGrant c r s).pending = s.pending := by
  simp only [endGrant]
  split <;> simp

@[simp] theorem curtail_frame (c : Col) (r : EndReason) (s : State) :
    (curtail c r s).cl = s.cl ∧ (curtail c r s).eu = s.eu ∧ (curtail c r s).fe = s.fe ∧ (curtail c r s).cd = s.cd ∧
    (curtail c r s).ru = s.ru ∧ (curtail c r s).tu = s.tu ∧ (curtail c r s).rr = s.rr ∧
    (curtail c r s).restartPromised = s.restartPromised ∧ (curtail c r s).pending = s.pending := by
  simp only [curtail]
  (repeat' split) <;> simp

@[simp] theorem storeClass_frame (c : Col) (k : FillClass) (s : State) :
    (storeClass c k s).cl = s.cl ∧ (storeClass c k s).eu = s.eu ∧ (storeClass c k s).fe = s.fe ∧
    (storeClass c k s).cd = s.cd ∧ (storeClass c k s).sc = s.sc ∧ (storeClass c k s).au = s.au ∧
    (storeClass c k s).ru = s.ru ∧ (storeClass c k s).lc = s.lc ∧ (storeClass c k s).nu = s.nu ∧
    (storeClass c k s).tu = s.tu ∧ (storeClass c k s).rr = s.rr ∧ (storeClass c k s).dl = s.dl ∧
    (storeClass c k s).acu = s.acu ∧ (storeClass c k s).restartPromised = s.restartPromised ∧
    (storeClass c k s).freeIndex = s.freeIndex ∧ (storeClass c k s).pending = s.pending := by
  simp [storeClass]

@[simp] theorem classReport_frame (c : Col) (k : FillClass) (s : State) :
    (classReport c k s).cl = s.cl ∧ (classReport c k s).eu = s.eu ∧ (classReport c k s).fe = s.fe ∧
    (classReport c k s).cd = s.cd ∧ (classReport c k s).ru = s.ru ∧ (classReport c k s).tu = s.tu ∧
    (classReport c k s).rr = s.rr ∧ (classReport c k s).restartPromised = s.restartPromised ∧
    (classReport c k s).pending = s.pending := by
  simp only [classReport]
  split <;> simp

@[simp] theorem acceptanceReport_frame (c : Col) (s : State) :
    (acceptanceReport c s).cl = s.cl ∧ (acceptanceReport c s).eu = s.eu ∧ (acceptanceReport c s).fe = s.fe ∧
    (acceptanceReport c s).cd = s.cd ∧ (acceptanceReport c s).sc = s.sc ∧ (acceptanceReport c s).au = s.au ∧
    (acceptanceReport c s).ru = s.ru ∧ (acceptanceReport c s).tu = s.tu ∧ (acceptanceReport c s).rr = s.rr ∧
    (acceptanceReport c s).dl = s.dl ∧ (acceptanceReport c s).restartPromised = s.restartPromised ∧
    (acceptanceReport c s).pending = s.pending := by
  unfold acceptanceReport
  (repeat' split) <;> simp

@[simp] theorem failureReport_frame (c : Col) (s : State) :
    (failureReport c s).cl = s.cl ∧ (failureReport c s).eu = s.eu ∧ (failureReport c s).fe = s.fe ∧
    (failureReport c s).cd = s.cd ∧ (failureReport c s).sc = s.sc ∧ (failureReport c s).au = s.au ∧
    (failureReport c s).ru = s.ru ∧ (failureReport c s).tu = s.tu ∧ (failureReport c s).rr = s.rr ∧
    (failureReport c s).dl = s.dl ∧ (failureReport c s).restartPromised = s.restartPromised ∧
    (failureReport c s).pending = s.pending := by
  simp only [failureReport]
  (repeat' split) <;> simp

@[simp] theorem takeClaim_frame (c : Col) (r : Word16) (s : State) :
    (takeClaim c r s).cl = s.cl ∧ (takeClaim c r s).eu = s.eu ∧ (takeClaim c r s).fe = s.fe ∧ (takeClaim c r s).cd = s.cd ∧
    (takeClaim c r s).ru = s.ru ∧ (takeClaim c r s).tu = s.tu ∧ (takeClaim c r s).rr = s.rr ∧
    (takeClaim c r s).restartPromised = s.restartPromised ∧ (takeClaim c r s).pending = s.pending := by
  simp only [takeClaim]
  (repeat' split) <;> simp

@[simp] theorem leaveHeld_frame (c : Col) (s : State) :
    (leaveHeld c s).cl = s.cl ∧ (leaveHeld c s).eu = s.eu ∧ (leaveHeld c s).fe = s.fe ∧ (leaveHeld c s).cd = s.cd ∧
    (leaveHeld c s).sc = s.sc ∧ (leaveHeld c s).au = s.au ∧ (leaveHeld c s).ru = s.ru ∧ (leaveHeld c s).tu = s.tu ∧
    (leaveHeld c s).rr = s.rr ∧ (leaveHeld c s).dl = s.dl ∧ (leaveHeld c s).restartPromised = s.restartPromised ∧
    (leaveHeld c s).pending = s.pending := by
  simp [leaveHeld]

@[simp] theorem beginMeasurement_frame (c : Col) (s : State) :
    (beginMeasurement c s).cl = s.cl ∧ (beginMeasurement c s).cc = s.cc ∧ (beginMeasurement c s).cd = s.cd ∧
    (beginMeasurement c s).sc = s.sc ∧ (beginMeasurement c s).au = s.au ∧ (beginMeasurement c s).ru = s.ru ∧
    (beginMeasurement c s).lc = s.lc ∧ (beginMeasurement c s).nu = s.nu ∧ (beginMeasurement c s).tu = s.tu ∧
    (beginMeasurement c s).rr = s.rr ∧ (beginMeasurement c s).dl = s.dl ∧ (beginMeasurement c s).acu = s.acu ∧
    (beginMeasurement c s).restartPromised = s.restartPromised ∧ (beginMeasurement c s).freeIndex = s.freeIndex ∧
    (beginMeasurement c s).pending = s.pending := by
  simp [beginMeasurement]

@[simp] theorem serve_frame (s : State) :
    (serve s).cl = s.cl ∧ (serve s).cc = s.cc ∧ (serve s).cd = s.cd ∧ (serve s).sc = s.sc ∧ (serve s).au = s.au ∧
    (serve s).ru = s.ru ∧ (serve s).lc = s.lc ∧ (serve s).nu = s.nu ∧ (serve s).tu = s.tu ∧ (serve s).rr = s.rr ∧
    (serve s).dl = s.dl ∧ (serve s).acu = s.acu ∧ (serve s).restartPromised = s.restartPromised ∧
    (serve s).freeIndex = s.freeIndex ∧ (serve s).pending = s.pending := by
  unfold serve
  (repeat' split) <;> simp

@[simp] theorem setRequest_frame (c : Col) (s : State) :
    (setRequest c s).cl = s.cl ∧ (setRequest c s).cc = s.cc ∧ (setRequest c s).fe = s.fe ∧ (setRequest c s).cd = s.cd ∧
    (setRequest c s).sc = s.sc ∧ (setRequest c s).au = s.au ∧ (setRequest c s).ru = s.ru ∧ (setRequest c s).lc = s.lc ∧
    (setRequest c s).nu = s.nu ∧ (setRequest c s).tu = s.tu ∧ (setRequest c s).rr = s.rr ∧ (setRequest c s).dl = s.dl ∧
    (setRequest c s).acu = s.acu ∧ (setRequest c s).restartPromised = s.restartPromised ∧
    (setRequest c s).freeIndex = s.freeIndex ∧ (setRequest c s).pending = s.pending := by
  unfold setRequest
  (repeat' split) <;> simp

@[simp] theorem requestMeasurement_frame (c : Col) (s : State) :
    (requestMeasurement c s).cl = s.cl ∧ (requestMeasurement c s).cc = s.cc ∧ (requestMeasurement c s).cd = s.cd ∧
    (requestMeasurement c s).sc = s.sc ∧ (requestMeasurement c s).au = s.au ∧ (requestMeasurement c s).ru = s.ru ∧
    (requestMeasurement c s).lc = s.lc ∧ (requestMeasurement c s).nu = s.nu ∧ (requestMeasurement c s).tu = s.tu ∧
    (requestMeasurement c s).rr = s.rr ∧ (requestMeasurement c s).dl = s.dl ∧ (requestMeasurement c s).acu = s.acu ∧
    (requestMeasurement c s).restartPromised = s.restartPromised ∧ (requestMeasurement c s).freeIndex = s.freeIndex ∧
    (requestMeasurement c s).pending = s.pending := by
  simp [requestMeasurement]

@[simp] theorem freeEu_frame (s : State) :
    (freeEu s).cl = s.cl ∧ (freeEu s).cc = s.cc ∧ (freeEu s).cd = s.cd ∧ (freeEu s).sc = s.sc ∧ (freeEu s).au = s.au ∧
    (freeEu s).ru = s.ru ∧ (freeEu s).lc = s.lc ∧ (freeEu s).nu = s.nu ∧ (freeEu s).tu = s.tu ∧ (freeEu s).rr = s.rr ∧
    (freeEu s).dl = s.dl ∧ (freeEu s).acu = s.acu ∧ (freeEu s).restartPromised = s.restartPromised ∧
    (freeEu s).freeIndex = s.freeIndex ∧ (freeEu s).pending = s.pending := by
  simp [freeEu]

@[simp] theorem recomputeFe_frame (c : Col) (x : Fe) (s : State) :
    (recomputeFe c x s).cl = s.cl ∧ (recomputeFe c x s).cc = s.cc ∧ (recomputeFe c x s).eu = s.eu ∧
    (recomputeFe c x s).cd = s.cd ∧ (recomputeFe c x s).sc = s.sc ∧ (recomputeFe c x s).au = s.au ∧
    (recomputeFe c x s).ru = s.ru ∧ (recomputeFe c x s).lc = s.lc ∧ (recomputeFe c x s).nu = s.nu ∧
    (recomputeFe c x s).tu = s.tu ∧ (recomputeFe c x s).rr = s.rr ∧ (recomputeFe c x s).dl = s.dl ∧
    (recomputeFe c x s).acu = s.acu ∧ (recomputeFe c x s).restartPromised = s.restartPromised ∧
    (recomputeFe c x s).freeIndex = s.freeIndex ∧ (recomputeFe c x s).pending = s.pending := by
  simp [recomputeFe]

@[simp] theorem reportClass_frame (c : Col) (k : FillClass) (s : State) :
    (reportClass c k s).cl = s.cl ∧ (reportClass c k s).eu = s.eu ∧ (reportClass c k s).fe = s.fe ∧
    (reportClass c k s).cd = s.cd ∧ (reportClass c k s).ru = s.ru ∧ (reportClass c k s).tu = s.tu ∧
    (reportClass c k s).rr = s.rr ∧ (reportClass c k s).restartPromised = s.restartPromised ∧
    (reportClass c k s).pending = s.pending := by
  simp only [reportClass]
  split <;> simp

@[simp] theorem feDeposit_frame (c : Col) (s : State) :
    (feDeposit c s).cl = s.cl ∧ (feDeposit c s).cd = s.cd ∧ (feDeposit c s).sc = s.sc ∧ (feDeposit c s).au = s.au ∧
    (feDeposit c s).ru = s.ru ∧ (feDeposit c s).tu = s.tu ∧ (feDeposit c s).rr = s.rr ∧ (feDeposit c s).dl = s.dl ∧
    (feDeposit c s).restartPromised = s.restartPromised ∧ (feDeposit c s).pending = s.pending := by
  simp only [feDeposit]
  (repeat' split) <;> simp

@[simp] theorem fillReset_frame (c : Col) (s : State) :
    (fillReset c s).cl = s.cl ∧ (fillReset c s).eu = s.eu ∧ (fillReset c s).cd = s.cd ∧ (fillReset c s).ru = s.ru ∧
    (fillReset c s).tu = s.tu ∧ (fillReset c s).rr = s.rr ∧ (fillReset c s).restartPromised = s.restartPromised ∧
    (fillReset c s).pending = s.pending := by
  simp [fillReset]

@[simp] theorem echoFailure_frame (c : Col) (s : State) :
    (echoFailure c s).cl = s.cl ∧ (echoFailure c s).eu = s.eu ∧ (echoFailure c s).cd = s.cd ∧ (echoFailure c s).sc = s.sc ∧
    (echoFailure c s).au = s.au ∧ (echoFailure c s).ru = s.ru ∧ (echoFailure c s).tu = s.tu ∧ (echoFailure c s).rr = s.rr ∧
    (echoFailure c s).dl = s.dl ∧ (echoFailure c s).restartPromised = s.restartPromised ∧
    (echoFailure c s).pending = s.pending := by
  simp only [echoFailure]
  split <;> simp

@[simp] theorem acceptCandidate_frame (c : Col) (m : Nat) (s : State) :
    (acceptCandidate c m s).cl = s.cl ∧ (acceptCandidate c m s).eu = s.eu ∧ (acceptCandidate c m s).cd = s.cd ∧
    (acceptCandidate c m s).ru = s.ru ∧ (acceptCandidate c m s).tu = s.tu ∧ (acceptCandidate c m s).rr = s.rr ∧
    (acceptCandidate c m s).restartPromised = s.restartPromised ∧ (acceptCandidate c m s).pending = s.pending := by
  simp [acceptCandidate]

@[simp] theorem inferEmptying_frame (c : Col) (m : Nat) (s : State) :
    (inferEmptying c m s).cl = s.cl ∧ (inferEmptying c m s).eu = s.eu ∧ (inferEmptying c m s).cd = s.cd ∧
    (inferEmptying c m s).ru = s.ru ∧ (inferEmptying c m s).tu = s.tu ∧ (inferEmptying c m s).rr = s.rr ∧
    (inferEmptying c m s).restartPromised = s.restartPromised ∧ (inferEmptying c m s).pending = s.pending := by
  simp [inferEmptying]

@[simp] theorem validReading_frame (c : Col) (r : Nat) (s : State) :
    (validReading c r s).cl = s.cl ∧ (validReading c r s).eu = s.eu ∧ (validReading c r s).cd = s.cd ∧
    (validReading c r s).ru = s.ru ∧ (validReading c r s).tu = s.tu ∧ (validReading c r s).rr = s.rr ∧
    (validReading c r s).restartPromised = s.restartPromised ∧ (validReading c r s).pending = s.pending := by
  simp only [validReading]
  (repeat' split) <;> simp

@[simp] theorem takeEchoResult_frame (c : Col) (r : EchoResult) (c10 : Nat) (s : State) :
    (takeEchoResult c r c10 s).cl = s.cl ∧ (takeEchoResult c r c10 s).eu = s.eu ∧ (takeEchoResult c r c10 s).cd = s.cd ∧
    (takeEchoResult c r c10 s).ru = s.ru ∧ (takeEchoResult c r c10 s).tu = s.tu ∧ (takeEchoResult c r c10 s).rr = s.rr ∧
    (takeEchoResult c r c10 s).restartPromised = s.restartPromised ∧ (takeEchoResult c r c10 s).pending = s.pending := by
  unfold takeEchoResult
  (repeat' split) <;> simp

@[simp] theorem endMeasurement_frame (m : Measurement) (r : EchoResult) (s : State) :
    (endMeasurement m r s).cl = s.cl ∧ (endMeasurement m r s).cd = s.cd ∧ (endMeasurement m r s).ru = s.ru ∧
    (endMeasurement m r s).tu = s.tu ∧ (endMeasurement m r s).rr = s.rr ∧
    (endMeasurement m r s).restartPromised = s.restartPromised ∧ (endMeasurement m r s).pending = s.pending := by
  simp [endMeasurement]

@[simp] theorem sendPull_frame (a : Nat) (s : State) :
    (sendPull a s).cl = s.cl ∧ (sendPull a s).cc = s.cc ∧ (sendPull a s).eu = s.eu ∧ (sendPull a s).fe = s.fe ∧
    (sendPull a s).cd = s.cd ∧ (sendPull a s).sc = s.sc ∧ (sendPull a s).au = s.au ∧ (sendPull a s).nu = s.nu ∧
    (sendPull a s).tu = s.tu ∧ (sendPull a s).rr = s.rr ∧ (sendPull a s).dl = s.dl ∧
    (sendPull a s).restartPromised = s.restartPromised ∧ (sendPull a s).freeIndex = s.freeIndex ∧
    (sendPull a s).pending = s.pending := by
  simp [sendPull]

@[simp] theorem testPull_frame (s : State) :
    (testPull s).cl = s.cl ∧ (testPull s).cc = s.cc ∧ (testPull s).eu = s.eu ∧ (testPull s).fe = s.fe ∧
    (testPull s).cd = s.cd ∧ (testPull s).sc = s.sc ∧ (testPull s).au = s.au ∧ (testPull s).nu = s.nu ∧
    (testPull s).tu = s.tu ∧ (testPull s).rr = s.rr ∧ (testPull s).dl = s.dl ∧
    (testPull s).restartPromised = s.restartPromised ∧ (testPull s).freeIndex = s.freeIndex ∧
    (testPull s).pending = s.pending := by
  simp only [testPull]
  (repeat' split) <;> simp

@[simp] theorem wantPull_frame (t : PullTarget) (w : Nat) (s : State) :
    (wantPull t w s).cl = s.cl ∧ (wantPull t w s).cc = s.cc ∧ (wantPull t w s).eu = s.eu ∧ (wantPull t w s).fe = s.fe ∧
    (wantPull t w s).cd = s.cd ∧ (wantPull t w s).sc = s.sc ∧ (wantPull t w s).au = s.au ∧ (wantPull t w s).nu = s.nu ∧
    (wantPull t w s).tu = s.tu ∧ (wantPull t w s).rr = s.rr ∧ (wantPull t w s).dl = s.dl ∧
    (wantPull t w s).restartPromised = s.restartPromised ∧ (wantPull t w s).freeIndex = s.freeIndex ∧
    (wantPull t w s).pending = s.pending := by
  simp [wantPull]

@[simp] theorem endPull_frame (s : State) :
    (endPull s).cl = s.cl ∧ (endPull s).cc = s.cc ∧ (endPull s).eu = s.eu ∧ (endPull s).fe = s.fe ∧ (endPull s).cd = s.cd ∧
    (endPull s).sc = s.sc ∧ (endPull s).au = s.au ∧ (endPull s).nu = s.nu ∧ (endPull s).tu = s.tu ∧ (endPull s).rr = s.rr ∧
    (endPull s).dl = s.dl ∧ (endPull s).restartPromised = s.restartPromised ∧ (endPull s).freeIndex = s.freeIndex ∧
    (endPull s).pending = s.pending := by
  simp [endPull]

@[simp] theorem blockCard_frame (card : Word32) (s : State) :
    (blockCard card s).cl = s.cl ∧ (blockCard card s).eu = s.eu ∧ (blockCard card s).fe = s.fe ∧
    (blockCard card s).cd = s.cd ∧ (blockCard card s).ru = s.ru ∧ (blockCard card s).tu = s.tu ∧
    (blockCard card s).rr = s.rr ∧ (blockCard card s).restartPromised = s.restartPromised ∧
    (blockCard card s).pending = s.pending := by
  unfold blockCard
  (repeat' split) <;> simp

@[simp] theorem applyStatus_frame (r : RevRecord) (s : State) :
    (applyStatus r s).cl = s.cl ∧ (applyStatus r s).cc = s.cc ∧ (applyStatus r s).eu = s.eu ∧ (applyStatus r s).fe = s.fe ∧
    (applyStatus r s).sc = s.sc ∧ (applyStatus r s).au = s.au ∧ (applyStatus r s).ru = s.ru ∧ (applyStatus r s).lc = s.lc ∧
    (applyStatus r s).nu = s.nu ∧ (applyStatus r s).tu = s.tu ∧ (applyStatus r s).rr = s.rr ∧ (applyStatus r s).dl = s.dl ∧
    (applyStatus r s).acu = s.acu ∧ (applyStatus r s).restartPromised = s.restartPromised ∧
    (applyStatus r s).freeIndex = s.freeIndex ∧ (applyStatus r s).pending = s.pending := by
  unfold applyStatus
  (repeat' split) <;> simp

@[simp] theorem clearGap_frame (s : State) :
    (clearGap s).cl = s.cl ∧ (clearGap s).cc = s.cc ∧ (clearGap s).eu = s.eu ∧ (clearGap s).fe = s.fe ∧
    (clearGap s).cd = s.cd ∧ (clearGap s).sc = s.sc ∧ (clearGap s).au = s.au ∧ (clearGap s).nu = s.nu ∧
    (clearGap s).tu = s.tu ∧ (clearGap s).rr = s.rr ∧ (clearGap s).dl = s.dl ∧
    (clearGap s).restartPromised = s.restartPromised ∧ (clearGap s).freeIndex = s.freeIndex ∧
    (clearGap s).pending = s.pending := by
  simp [clearGap]

@[simp] theorem clearReachedGap_frame (s : State) :
    (clearReachedGap s).cl = s.cl ∧ (clearReachedGap s).cc = s.cc ∧ (clearReachedGap s).eu = s.eu ∧
    (clearReachedGap s).fe = s.fe ∧ (clearReachedGap s).cd = s.cd ∧ (clearReachedGap s).sc = s.sc ∧
    (clearReachedGap s).au = s.au ∧ (clearReachedGap s).nu = s.nu ∧ (clearReachedGap s).tu = s.tu ∧
    (clearReachedGap s).rr = s.rr ∧ (clearReachedGap s).dl = s.dl ∧
    (clearReachedGap s).restartPromised = s.restartPromised ∧ (clearReachedGap s).freeIndex = s.freeIndex ∧
    (clearReachedGap s).pending = s.pending := by
  unfold clearReachedGap
  (repeat' split) <;> simp

@[simp] theorem endReachedWant_frame (s : State) :
    (endReachedWant s).cl = s.cl ∧ (endReachedWant s).cc = s.cc ∧ (endReachedWant s).eu = s.eu ∧
    (endReachedWant s).fe = s.fe ∧ (endReachedWant s).cd = s.cd ∧ (endReachedWant s).sc = s.sc ∧
    (endReachedWant s).au = s.au ∧ (endReachedWant s).lc = s.lc ∧ (endReachedWant s).nu = s.nu ∧
    (endReachedWant s).tu = s.tu ∧ (endReachedWant s).rr = s.rr ∧ (endReachedWant s).dl = s.dl ∧
    (endReachedWant s).acu = s.acu ∧ (endReachedWant s).restartPromised = s.restartPromised ∧
    (endReachedWant s).freeIndex = s.freeIndex ∧ (endReachedWant s).pending = s.pending := by
  unfold endReachedWant
  (repeat' split) <;> simp

@[simp] theorem announceRecord_frame (r : RevRecord) (s : State) :
    (announceRecord r s).cl = s.cl ∧ (announceRecord r s).eu = s.eu ∧ (announceRecord r s).fe = s.fe ∧
    (announceRecord r s).cd = s.cd ∧ (announceRecord r s).ru = s.ru ∧ (announceRecord r s).tu = s.tu ∧
    (announceRecord r s).rr = s.rr ∧ (announceRecord r s).restartPromised = s.restartPromised ∧
    (announceRecord r s).pending = s.pending := by
  simp only [announceRecord]
  split <;> simp

@[simp] theorem applyNext_frame (f : RxFrame) (r : RevRecord) (s : State) :
    (applyNext f r s).cl = s.cl ∧ (applyNext f r s).eu = s.eu ∧ (applyNext f r s).fe = s.fe ∧ (applyNext f r s).tu = s.tu ∧
    (applyNext f r s).rr = s.rr ∧ (applyNext f r s).restartPromised = s.restartPromised ∧
    (applyNext f r s).pending = s.pending := by
  simp only [applyNext]
  split <;> simp

@[simp] theorem applyJump_frame (f : RxFrame) (r : RevRecord) (s : State) :
    (applyJump f r s).cl = s.cl ∧ (applyJump f r s).eu = s.eu ∧ (applyJump f r s).fe = s.fe ∧ (applyJump f r s).tu = s.tu ∧
    (applyJump f r s).rr = s.rr ∧ (applyJump f r s).restartPromised = s.restartPromised ∧
    (applyJump f r s).pending = s.pending := by
  simp only [applyJump]
  split <;> simp

@[simp] theorem takeRecord_frame (f : RxFrame) (j : Bool) (r : RevRecord) (s : State) :
    (takeRecord f j r s).cl = s.cl ∧ (takeRecord f j r s).eu = s.eu ∧ (takeRecord f j r s).fe = s.fe ∧
    (takeRecord f j r s).tu = s.tu ∧ (takeRecord f j r s).rr = s.rr ∧
    (takeRecord f j r s).restartPromised = s.restartPromised ∧ (takeRecord f j r s).pending = s.pending := by
  unfold takeRecord
  (repeat' split) <;> simp

@[simp] theorem evaluatePeriod_frame (s : State) :
    (evaluatePeriod s).cl = s.cl ∧ (evaluatePeriod s).cc = s.cc ∧ (evaluatePeriod s).eu = s.eu ∧
    (evaluatePeriod s).fe = s.fe ∧ (evaluatePeriod s).sc = s.sc ∧ (evaluatePeriod s).au = s.au ∧
    (evaluatePeriod s).ru = s.ru ∧ (evaluatePeriod s).lc = s.lc ∧ (evaluatePeriod s).nu = s.nu ∧
    (evaluatePeriod s).rr = s.rr ∧ (evaluatePeriod s).dl = s.dl ∧ (evaluatePeriod s).acu = s.acu ∧
    (evaluatePeriod s).restartPromised = s.restartPromised ∧ (evaluatePeriod s).freeIndex = s.freeIndex ∧
    (evaluatePeriod s).pending = s.pending := by
  unfold evaluatePeriod
  (repeat' split) <;> simp

@[simp] theorem setClock_frame (k : Word32) (h : Nat) (s : State) :
    (setClock k h s).cl = s.cl ∧ (setClock k h s).cc = s.cc ∧ (setClock k h s).eu = s.eu ∧ (setClock k h s).fe = s.fe ∧
    (setClock k h s).sc = s.sc ∧ (setClock k h s).au = s.au ∧ (setClock k h s).ru = s.ru ∧ (setClock k h s).lc = s.lc ∧
    (setClock k h s).nu = s.nu ∧ (setClock k h s).rr = s.rr ∧ (setClock k h s).dl = s.dl ∧ (setClock k h s).acu = s.acu ∧
    (setClock k h s).restartPromised = s.restartPromised ∧ (setClock k h s).freeIndex = s.freeIndex ∧
    (setClock k h s).pending = s.pending := by
  simp [setClock]

@[simp] theorem adoptTime_frame (k : Word32) (h : Nat) (s : State) :
    (adoptTime k h s).cl = s.cl ∧ (adoptTime k h s).cc = s.cc ∧ (adoptTime k h s).eu = s.eu ∧ (adoptTime k h s).fe = s.fe ∧
    (adoptTime k h s).sc = s.sc ∧ (adoptTime k h s).au = s.au ∧ (adoptTime k h s).ru = s.ru ∧ (adoptTime k h s).lc = s.lc ∧
    (adoptTime k h s).nu = s.nu ∧ (adoptTime k h s).rr = s.rr ∧ (adoptTime k h s).dl = s.dl ∧
    (adoptTime k h s).acu = s.acu ∧ (adoptTime k h s).restartPromised = s.restartPromised ∧
    (adoptTime k h s).freeIndex = s.freeIndex ∧ (adoptTime k h s).pending = s.pending := by
  unfold adoptTime
  (repeat' split) <;> simp

@[simp] theorem takeIntoTable_frame (f : RxFrame) (s : State) :
    (takeIntoTable f s).cl = s.cl ∧ (takeIntoTable f s).cc = s.cc ∧ (takeIntoTable f s).eu = s.eu ∧
    (takeIntoTable f s).fe = s.fe ∧ (takeIntoTable f s).cd = s.cd ∧ (takeIntoTable f s).sc = s.sc ∧
    (takeIntoTable f s).au = s.au ∧ (takeIntoTable f s).ru = s.ru ∧ (takeIntoTable f s).tu = s.tu ∧
    (takeIntoTable f s).rr = s.rr ∧ (takeIntoTable f s).dl = s.dl ∧
    (takeIntoTable f s).restartPromised = s.restartPromised ∧ (takeIntoTable f s).freeIndex = s.freeIndex ∧
    (takeIntoTable f s).pending = s.pending := by
  simp only [takeIntoTable]
  (repeat' split) <;> simp

@[simp] theorem handMark_frame (a m : Nat) (s : State) :
    (handMark a m s).cl = s.cl ∧ (handMark a m s).cc = s.cc ∧ (handMark a m s).eu = s.eu ∧ (handMark a m s).fe = s.fe ∧
    (handMark a m s).cd = s.cd ∧ (handMark a m s).sc = s.sc ∧ (handMark a m s).au = s.au ∧ (handMark a m s).nu = s.nu ∧
    (handMark a m s).tu = s.tu ∧ (handMark a m s).rr = s.rr ∧ (handMark a m s).dl = s.dl ∧
    (handMark a m s).restartPromised = s.restartPromised ∧ (handMark a m s).freeIndex = s.freeIndex ∧
    (handMark a m s).pending = s.pending := by
  unfold handMark
  (repeat' split) <;> simp

@[simp] theorem takeBeacon_frame (f : RxFrame) (s : State) :
    (takeBeacon f s).cl = s.cl ∧ (takeBeacon f s).cc = s.cc ∧ (takeBeacon f s).eu = s.eu ∧ (takeBeacon f s).fe = s.fe ∧
    (takeBeacon f s).sc = s.sc ∧ (takeBeacon f s).au = s.au ∧ (takeBeacon f s).rr = s.rr ∧ (takeBeacon f s).dl = s.dl ∧
    (takeBeacon f s).restartPromised = s.restartPromised ∧ (takeBeacon f s).freeIndex = s.freeIndex ∧
    (takeBeacon f s).pending = s.pending := by
  unfold takeBeacon
  (repeat' split) <;> simp

@[simp] theorem refuse_frame (c : Col) (k : IndCode) (card : Option Word32) (t : Option Target) (s : State) :
    (refuse c k card t s).cl = s.cl ∧ (refuse c k card t s).cc = s.cc ∧ (refuse c k card t s).eu = s.eu ∧
    (refuse c k card t s).fe = s.fe ∧ (refuse c k card t s).cd = s.cd ∧ (refuse c k card t s).ru = s.ru ∧
    (refuse c k card t s).nu = s.nu ∧ (refuse c k card t s).tu = s.tu ∧ (refuse c k card t s).rr = s.rr ∧
    (refuse c k card t s).restartPromised = s.restartPromised ∧ (refuse c k card t s).freeIndex = s.freeIndex ∧
    (refuse c k card t s).pending = s.pending := by
  simp only [refuse]
  split <;> simp

@[simp] theorem refuseClosed_frame (c : Col) (card : Word32) (s : State) :
    (refuseClosed c card s).cl = s.cl ∧ (refuseClosed c card s).cc = s.cc ∧ (refuseClosed c card s).eu = s.eu ∧
    (refuseClosed c card s).fe = s.fe ∧ (refuseClosed c card s).cd = s.cd ∧ (refuseClosed c card s).ru = s.ru ∧
    (refuseClosed c card s).nu = s.nu ∧ (refuseClosed c card s).tu = s.tu ∧ (refuseClosed c card s).rr = s.rr ∧
    (refuseClosed c card s).restartPromised = s.restartPromised ∧ (refuseClosed c card s).freeIndex = s.freeIndex ∧
    (refuseClosed c card s).pending = s.pending := by
  unfold refuseClosed
  (repeat' split) <;> simp

@[simp] theorem refuseFor_frame (c : Col) (k : IndCode) (card : Word32) (s : State) :
    (refuseFor c k card s).cl = s.cl ∧ (refuseFor c k card s).cc = s.cc ∧ (refuseFor c k card s).eu = s.eu ∧
    (refuseFor c k card s).fe = s.fe ∧ (refuseFor c k card s).cd = s.cd ∧ (refuseFor c k card s).ru = s.ru ∧
    (refuseFor c k card s).nu = s.nu ∧ (refuseFor c k card s).tu = s.tu ∧ (refuseFor c k card s).rr = s.rr ∧
    (refuseFor c k card s).restartPromised = s.restartPromised ∧ (refuseFor c k card s).freeIndex = s.freeIndex ∧
    (refuseFor c k card s).pending = s.pending := by
  unfold refuseFor
  (repeat' split) <;> simp

@[simp] theorem requestGrant_frame (c : Col) (card : Word32) (s : State) :
    (requestGrant c card s).cl = s.cl ∧ (requestGrant c card s).cc = s.cc ∧ (requestGrant c card s).eu = s.eu ∧
    (requestGrant c card s).fe = s.fe ∧ (requestGrant c card s).cd = s.cd ∧ (requestGrant c card s).sc = s.sc ∧
    (requestGrant c card s).ru = s.ru ∧ (requestGrant c card s).lc = s.lc ∧ (requestGrant c card s).nu = s.nu ∧
    (requestGrant c card s).tu = s.tu ∧ (requestGrant c card s).rr = s.rr ∧ (requestGrant c card s).dl = s.dl ∧
    (requestGrant c card s).acu = s.acu ∧ (requestGrant c card s).restartPromised = s.restartPromised ∧
    (requestGrant c card s).freeIndex = s.freeIndex ∧ (requestGrant c card s).pending = s.pending := by
  unfold requestGrant
  (repeat' split) <;> simp

@[simp] theorem holderPresents_frame (c : Col) (g : Grant) (s : State) :
    (holderPresents c g s).cl = s.cl ∧ (holderPresents c g s).cc = s.cc ∧ (holderPresents c g s).eu = s.eu ∧
    (holderPresents c g s).fe = s.fe ∧ (holderPresents c g s).cd = s.cd ∧ (holderPresents c g s).sc = s.sc ∧
    (holderPresents c g s).ru = s.ru ∧ (holderPresents c g s).lc = s.lc ∧ (holderPresents c g s).nu = s.nu ∧
    (holderPresents c g s).tu = s.tu ∧ (holderPresents c g s).rr = s.rr ∧ (holderPresents c g s).dl = s.dl ∧
    (holderPresents c g s).acu = s.acu ∧ (holderPresents c g s).restartPromised = s.restartPromised ∧
    (holderPresents c g s).freeIndex = s.freeIndex ∧ (holderPresents c g s).pending = s.pending := by
  simp [holderPresents]

@[simp] theorem present_frame (c : Col) (card : Word32) (issue : Byte) (bad : Bool) (s : State) :
    (present c card issue bad s).cl = s.cl ∧ (present c card issue bad s).cc = s.cc ∧
    (present c card issue bad s).eu = s.eu ∧ (present c card issue bad s).fe = s.fe ∧
    (present c card issue bad s).cd = s.cd ∧ (present c card issue bad s).ru = s.ru ∧
    (present c card issue bad s).nu = s.nu ∧ (present c card issue bad s).tu = s.tu ∧
    (present c card issue bad s).rr = s.rr ∧ (present c card issue bad s).restartPromised = s.restartPromised ∧
    (present c card issue bad s).freeIndex = s.freeIndex ∧ (present c card issue bad s).pending = s.pending := by
  simp only [present]
  (repeat' split) <;> simp

@[simp] theorem takeGrant_frame (c : Col) (s : State) :
    (takeGrant c s).cl = s.cl ∧ (takeGrant c s).eu = s.eu ∧ (takeGrant c s).fe = s.fe ∧ (takeGrant c s).cd = s.cd ∧
    (takeGrant c s).sc = s.sc ∧ (takeGrant c s).au = s.au ∧ (takeGrant c s).ru = s.ru ∧ (takeGrant c s).tu = s.tu ∧
    (takeGrant c s).rr = s.rr ∧ (takeGrant c s).dl = s.dl ∧ (takeGrant c s).restartPromised = s.restartPromised ∧
    (takeGrant c s).pending = s.pending := by
  simp [takeGrant]

@[simp] theorem issueGrant_frame (c : Col) (g : Grant) (s : State) :
    (issueGrant c g s).cl = s.cl ∧ (issueGrant c g s).eu = s.eu ∧ (issueGrant c g s).fe = s.fe ∧
    (issueGrant c g s).cd = s.cd ∧ (issueGrant c g s).ru = s.ru ∧ (issueGrant c g s).tu = s.tu ∧
    (issueGrant c g s).rr = s.rr ∧ (issueGrant c g s).restartPromised = s.restartPromised ∧
    (issueGrant c g s).pending = s.pending := by
  simp only [issueGrant]
  split <;> simp

@[simp] theorem answerRequest_frame (c : Col) (g : Grant) (s : State) :
    (answerRequest c g s).cl = s.cl ∧ (answerRequest c g s).eu = s.eu ∧ (answerRequest c g s).fe = s.fe ∧
    (answerRequest c g s).cd = s.cd ∧ (answerRequest c g s).ru = s.ru ∧ (answerRequest c g s).tu = s.tu ∧
    (answerRequest c g s).rr = s.rr ∧ (answerRequest c g s).restartPromised = s.restartPromised ∧
    (answerRequest c g s).pending = s.pending := by
  unfold answerRequest
  split <;> simp

@[simp] theorem beaconFormed_frame (s : State) :
    (beaconFormed s).cl = s.cl ∧ (beaconFormed s).cc = s.cc ∧ (beaconFormed s).eu = s.eu ∧ (beaconFormed s).fe = s.fe ∧
    (beaconFormed s).cd = s.cd ∧ (beaconFormed s).sc = s.sc ∧ (beaconFormed s).au = s.au ∧ (beaconFormed s).ru = s.ru ∧
    (beaconFormed s).lc = s.lc ∧ (beaconFormed s).tu = s.tu ∧ (beaconFormed s).rr = s.rr ∧ (beaconFormed s).dl = s.dl ∧
    (beaconFormed s).acu = s.acu ∧ (beaconFormed s).restartPromised = s.restartPromised ∧
    (beaconFormed s).freeIndex = s.freeIndex ∧ (beaconFormed s).pending = s.pending := by
  simp [beaconFormed]

@[simp] theorem startTransmission_frame (f : TxFrame) (s : State) :
    (startTransmission f s).cl = s.cl ∧ (startTransmission f s).cc = s.cc ∧ (startTransmission f s).eu = s.eu ∧
    (startTransmission f s).fe = s.fe ∧ (startTransmission f s).cd = s.cd ∧ (startTransmission f s).sc = s.sc ∧
    (startTransmission f s).au = s.au ∧ (startTransmission f s).ru = s.ru ∧ (startTransmission f s).tu = s.tu ∧
    (startTransmission f s).rr = s.rr ∧ (startTransmission f s).dl = s.dl ∧ (startTransmission f s).acu = s.acu ∧
    (startTransmission f s).restartPromised = s.restartPromised ∧ (startTransmission f s).freeIndex = s.freeIndex ∧
    (startTransmission f s).pending = s.pending := by
  simp only [startTransmission]
  split <;> simp

@[simp] theorem waitSlots_frame (f : TxFrame) (n : Nat) (s : State) :
    (waitSlots f n s).cl = s.cl ∧ (waitSlots f n s).cc = s.cc ∧ (waitSlots f n s).eu = s.eu ∧ (waitSlots f n s).fe = s.fe ∧
    (waitSlots f n s).cd = s.cd ∧ (waitSlots f n s).sc = s.sc ∧ (waitSlots f n s).au = s.au ∧ (waitSlots f n s).ru = s.ru ∧
    (waitSlots f n s).tu = s.tu ∧ (waitSlots f n s).rr = s.rr ∧ (waitSlots f n s).dl = s.dl ∧
    (waitSlots f n s).acu = s.acu ∧ (waitSlots f n s).restartPromised = s.restartPromised ∧
    (waitSlots f n s).freeIndex = s.freeIndex ∧ (waitSlots f n s).pending = s.pending := by
  unfold waitSlots
  (repeat' split) <;> simp

@[simp] theorem enterBackoff_frame (f : TxFrame) (s : State) :
    (enterBackoff f s).cl = s.cl ∧ (enterBackoff f s).cc = s.cc ∧ (enterBackoff f s).eu = s.eu ∧
    (enterBackoff f s).fe = s.fe ∧ (enterBackoff f s).cd = s.cd ∧ (enterBackoff f s).sc = s.sc ∧
    (enterBackoff f s).au = s.au ∧ (enterBackoff f s).ru = s.ru ∧ (enterBackoff f s).tu = s.tu ∧
    (enterBackoff f s).rr = s.rr ∧ (enterBackoff f s).dl = s.dl ∧ (enterBackoff f s).acu = s.acu ∧
    (enterBackoff f s).restartPromised = s.restartPromised ∧ (enterBackoff f s).pending = s.pending := by
  unfold enterBackoff
  split <;> simp [drawUpTo]

@[simp] theorem gapIfPassed_frame (s : State) :
    (gapIfPassed s).cl = s.cl ∧ (gapIfPassed s).cc = s.cc ∧ (gapIfPassed s).eu = s.eu ∧ (gapIfPassed s).fe = s.fe ∧
    (gapIfPassed s).cd = s.cd ∧ (gapIfPassed s).sc = s.sc ∧ (gapIfPassed s).au = s.au ∧ (gapIfPassed s).ru = s.ru ∧
    (gapIfPassed s).tu = s.tu ∧ (gapIfPassed s).rr = s.rr ∧ (gapIfPassed s).dl = s.dl ∧ (gapIfPassed s).acu = s.acu ∧
    (gapIfPassed s).restartPromised = s.restartPromised ∧ (gapIfPassed s).pending = s.pending := by
  unfold gapIfPassed
  (repeat' split) <;> simp

@[simp] theorem drumOpenEvent_frame (c : Col) (s : State) :
    (drumOpenEvent c s).cl = s.cl ∧ (drumOpenEvent c s).eu = s.eu ∧ (drumOpenEvent c s).fe = s.fe ∧
    (drumOpenEvent c s).cd = s.cd ∧ (drumOpenEvent c s).sc = s.sc ∧ (drumOpenEvent c s).ru = s.ru ∧
    (drumOpenEvent c s).tu = s.tu ∧ (drumOpenEvent c s).rr = s.rr ∧ (drumOpenEvent c s).dl = s.dl ∧
    (drumOpenEvent c s).restartPromised = s.restartPromised ∧ (drumOpenEvent c s).pending = s.pending := by
  simp only [drumOpenEvent, openUnderGrant]
  split <;> simp

@[simp] theorem completeCycle_frame (c : Col) (s : State) :
    (completeCycle c s).cl = s.cl ∧ (completeCycle c s).sc = s.sc ∧ (completeCycle c s).ru = s.ru ∧
    (completeCycle c s).tu = s.tu ∧ (completeCycle c s).rr = s.rr ∧ (completeCycle c s).dl = s.dl ∧
    (completeCycle c s).restartPromised = s.restartPromised ∧ (completeCycle c s).pending = s.pending := by
  simp [completeCycle]

@[simp] theorem returnToGranted_frame (c : Col) (b : Bool) (s : State) :
    (returnToGranted c b s).cl = s.cl ∧ (returnToGranted c b s).eu = s.eu ∧ (returnToGranted c b s).fe = s.fe ∧
    (returnToGranted c b s).cd = s.cd ∧ (returnToGranted c b s).sc = s.sc ∧ (returnToGranted c b s).ru = s.ru ∧
    (returnToGranted c b s).tu = s.tu ∧ (returnToGranted c b s).rr = s.rr ∧ (returnToGranted c b s).dl = s.dl ∧
    (returnToGranted c b s).restartPromised = s.restartPromised ∧ (returnToGranted c b s).pending = s.pending := by
  simp [returnToGranted]

@[simp] theorem decideClosing_frame (c : Col) (a b : Bool) (s : State) :
    (decideClosing c a b s).cl = s.cl ∧ (decideClosing c a b s).eu = s.eu ∧ (decideClosing c a b s).fe = s.fe ∧
    (decideClosing c a b s).cd = s.cd ∧ (decideClosing c a b s).ru = s.ru ∧ (decideClosing c a b s).tu = s.tu ∧
    (decideClosing c a b s).rr = s.rr ∧ (decideClosing c a b s).restartPromised = s.restartPromised ∧
    (decideClosing c a b s).pending = s.pending := by
  unfold decideClosing
  (repeat' split) <;> simp

@[simp] theorem endOpening_frame (c : Col) (s : State) :
    (endOpening c s).cl = s.cl ∧ (endOpening c s).ru = s.ru ∧ (endOpening c s).tu = s.tu ∧ (endOpening c s).rr = s.rr ∧
    (endOpening c s).restartPromised = s.restartPromised ∧ (endOpening c s).pending = s.pending := by
  simp only [endOpening]
  split <;> simp

@[simp] theorem drumClosedEvent_frame (c : Col) (s : State) :
    (drumClosedEvent c s).cl = s.cl ∧ (drumClosedEvent c s).ru = s.ru ∧ (drumClosedEvent c s).tu = s.tu ∧
    (drumClosedEvent c s).rr = s.rr ∧ (drumClosedEvent c s).restartPromised = s.restartPromised ∧
    (drumClosedEvent c s).pending = s.pending := by
  simp only [drumClosedEvent]
  split <;> simp

@[simp] theorem lockSenseEvent_frame (c : Col) (l : LockLevel) (s : State) :
    (lockSenseEvent c l s).cl = s.cl ∧ (lockSenseEvent c l s).eu = s.eu ∧ (lockSenseEvent c l s).fe = s.fe ∧
    (lockSenseEvent c l s).cd = s.cd ∧ (lockSenseEvent c l s).sc = s.sc ∧ (lockSenseEvent c l s).au = s.au ∧
    (lockSenseEvent c l s).ru = s.ru ∧ (lockSenseEvent c l s).tu = s.tu ∧ (lockSenseEvent c l s).rr = s.rr ∧
    (lockSenseEvent c l s).dl = s.dl ∧ (lockSenseEvent c l s).restartPromised = s.restartPromised ∧
    (lockSenseEvent c l s).pending = s.pending := by
  simp only [lockSenseEvent]
  split <;> simp

@[simp] theorem euAbsent_frame (c : Col) (s : State) :
    (euAbsent c s).cl = s.cl ∧ (euAbsent c s).cc = s.cc ∧ (euAbsent c s).cd = s.cd ∧ (euAbsent c s).sc = s.sc ∧
    (euAbsent c s).au = s.au ∧ (euAbsent c s).ru = s.ru ∧ (euAbsent c s).lc = s.lc ∧ (euAbsent c s).nu = s.nu ∧
    (euAbsent c s).tu = s.tu ∧ (euAbsent c s).rr = s.rr ∧ (euAbsent c s).dl = s.dl ∧ (euAbsent c s).acu = s.acu ∧
    (euAbsent c s).restartPromised = s.restartPromised ∧ (euAbsent c s).freeIndex = s.freeIndex ∧
    (euAbsent c s).pending = s.pending := by
  simp only [euAbsent]
  split <;> simp

@[simp] theorem liftContainer_frame (c : Col) (s : State) :
    (liftContainer c s).cl = s.cl ∧ (liftContainer c s).eu = s.eu ∧ (liftContainer c s).fe = s.fe ∧
    (liftContainer c s).cd = s.cd ∧ (liftContainer c s).ru = s.ru ∧ (liftContainer c s).tu = s.tu ∧
    (liftContainer c s).rr = s.rr ∧ (liftContainer c s).restartPromised = s.restartPromised ∧
    (liftContainer c s).pending = s.pending := by
  simp only [liftContainer]
  (repeat' split) <;> simp

@[simp] theorem containerAbsentEvent_frame (c : Col) (s : State) :
    (containerAbsentEvent c s).cl = s.cl ∧ (containerAbsentEvent c s).cd = s.cd ∧ (containerAbsentEvent c s).ru = s.ru ∧
    (containerAbsentEvent c s).tu = s.tu ∧ (containerAbsentEvent c s).rr = s.rr ∧
    (containerAbsentEvent c s).restartPromised = s.restartPromised ∧ (containerAbsentEvent c s).pending = s.pending := by
  simp only [containerAbsentEvent]
  split <;> simp

@[simp] theorem afterReturn_frame (c : Col) (s : State) :
    (afterReturn c s).cl = s.cl ∧ (afterReturn c s).eu = s.eu ∧ (afterReturn c s).fe = s.fe ∧ (afterReturn c s).cd = s.cd ∧
    (afterReturn c s).sc = s.sc ∧ (afterReturn c s).au = s.au ∧ (afterReturn c s).ru = s.ru ∧ (afterReturn c s).tu = s.tu ∧
    (afterReturn c s).rr = s.rr ∧ (afterReturn c s).dl = s.dl ∧ (afterReturn c s).restartPromised = s.restartPromised ∧
    (afterReturn c s).pending = s.pending := by
  simp only [afterReturn]
  split <;> simp

@[simp] theorem returnContainer_frame (c : Col) (s : State) :
    (returnContainer c s).cl = s.cl ∧ (returnContainer c s).cd = s.cd ∧ (returnContainer c s).ru = s.ru ∧
    (returnContainer c s).tu = s.tu ∧ (returnContainer c s).rr = s.rr ∧
    (returnContainer c s).restartPromised = s.restartPromised ∧ (returnContainer c s).pending = s.pending := by
  simp [returnContainer]

@[simp] theorem containerPresentEvent_frame (c : Col) (s : State) :
    (containerPresentEvent c s).cl = s.cl ∧ (containerPresentEvent c s).cd = s.cd ∧ (containerPresentEvent c s).ru = s.ru ∧
    (containerPresentEvent c s).tu = s.tu ∧ (containerPresentEvent c s).rr = s.rr ∧
    (containerPresentEvent c s).restartPromised = s.restartPromised ∧ (containerPresentEvent c s).pending = s.pending := by
  simp only [containerPresentEvent]
  split <;> simp

@[simp] theorem inputChange_frame (c : Col) (l : InputLevel) (s : State) :
    (inputChange c l s).cl = s.cl ∧ (inputChange c l s).ru = s.ru ∧ (inputChange c l s).tu = s.tu ∧
    (inputChange c l s).rr = s.rr ∧ (inputChange c l s).restartPromised = s.restartPromised ∧
    (inputChange c l s).pending = s.pending := by
  unfold inputChange inputEvent
  (repeat' split) <;> simp

@[simp] theorem inputSettles_frame (c : Col) (l : InputLevel) (s : State) :
    (inputSettles c l s).cl = s.cl ∧ (inputSettles c l s).ru = s.ru ∧ (inputSettles c l s).tu = s.tu ∧
    (inputSettles c l s).rr = s.rr ∧ (inputSettles c l s).restartPromised = s.restartPromised ∧
    (inputSettles c l s).pending = s.pending := by
  unfold inputSettles inputEvent
  (repeat' split) <;> simp

end Sys2Proof.Machine
end

