-- ==== Sys2Proof/Laws/Memory.lean ====
section
/-! SUPPORT. The laws of the store: every operation keeps the canonical form, a read after a write gives what was written, and a
write leaves every other byte alone. -/

namespace Sys2Proof.Machine

/-! ## Sparse lists -/

/-- The keys of a sparse list rise. -/
abbrev Sparse.rising {α : Type} (l : List (Nat × α)) : Prop := l.Pairwise fun p q => p.1 < q.1

theorem Sparse.get_put_same {α : Type} (k : Nat) (v : α) (l : List (Nat × α)) : Sparse.get k (Sparse.put k v l) = some v := by
  induction l with
  | nil => simp [Sparse.put, Sparse.get]
  | cons p l ih =>
    simp only [Sparse.put]
    split
    · simp [Sparse.get]
    · split
      · simp [Sparse.get]
      · rename_i h; simp [Sparse.get, Ne.symm h, ih]

theorem Sparse.get_put_ne {α : Type} (k j : Nat) (v : α) (l : List (Nat × α)) (h : j ≠ k) :
    Sparse.get j (Sparse.put k v l) = Sparse.get j l := by
  induction l with
  | nil => simp [Sparse.put, Sparse.get, Ne.symm h]
  | cons p l ih =>
    simp only [Sparse.put]
    split
    · simp [Sparse.get, Ne.symm h]
    · split
      · rename_i e; subst e; simp [Sparse.get, Ne.symm h]
      · simp [Sparse.get, ih]

theorem Sparse.get_of_lt {α : Type} (k : Nat) (l : List (Nat × α)) (h : ∀ p ∈ l, k < p.1) : Sparse.get k l = none := by
  induction l with
  | nil => rfl
  | cons p l ih =>
    have hp := h p (by simp)
    simp [Sparse.get, show p.1 ≠ k by omega, ih fun q hq => h q (by simp [hq])]

theorem Sparse.get_del_same {α : Type} (k : Nat) (l : List (Nat × α)) (h : Sparse.rising l) :
    Sparse.get k (Sparse.del k l) = none := by
  induction l with
  | nil => rfl
  | cons p l ih =>
    have ⟨hp, hl⟩ := List.pairwise_cons.mp h
    by_cases e : p.1 = k
    · simp only [Sparse.del, if_pos e]
      exact Sparse.get_of_lt k l fun q hq => e ▸ hp q hq
    · simp [Sparse.del, Sparse.get, e, ih hl]

theorem Sparse.get_del_ne {α : Type} (k j : Nat) (l : List (Nat × α)) (h : j ≠ k) :
    Sparse.get j (Sparse.del k l) = Sparse.get j l := by
  induction l with
  | nil => rfl
  | cons p l ih =>
    simp only [Sparse.del]
    split
    · rename_i e; simp [Sparse.get, show p.1 ≠ j by omega]
    · simp [Sparse.get, ih]

theorem Sparse.mem_put {α : Type} {k : Nat} {v : α} {l : List (Nat × α)} {p : Nat × α} (h : p ∈ Sparse.put k v l) :
    p = (k, v) ∨ p ∈ l := by
  induction l with
  | nil => simpa [Sparse.put] using h
  | cons q l ih =>
    simp only [Sparse.put] at h
    split at h
    · simpa using h
    · split at h
      · rcases List.mem_cons.mp h with h | h
        · exact .inl h
        · exact .inr (by simp [h])
      · rcases List.mem_cons.mp h with h | h
        · exact .inr (by simp [h])
        · exact (ih h).imp_right fun h => by simp [h]

theorem Sparse.mem_del {α : Type} {k : Nat} {l : List (Nat × α)} {p : Nat × α} (h : p ∈ Sparse.del k l) : p ∈ l := by
  induction l with
  | nil => exact h
  | cons q l ih =>
    simp only [Sparse.del] at h
    split at h
    · simp [h]
    · rcases List.mem_cons.mp h with h | h
      · simp [h]
      · simp [ih h]

theorem Sparse.put_rising {α : Type} (k : Nat) (v : α) (l : List (Nat × α)) (h : Sparse.rising l) :
    Sparse.rising (Sparse.put k v l) := by
  induction l with
  | nil => simp [Sparse.put]
  | cons p l ih =>
    have ⟨hp, hl⟩ := List.pairwise_cons.mp h
    simp only [Sparse.put]
    split
    · rename_i e
      refine List.pairwise_cons.mpr ⟨fun q hq => ?_, h⟩
      rcases List.mem_cons.mp hq with rfl | hq
      · exact e
      · exact lt_trans e (hp q hq)
    · split
      · rename_i e; subst e; exact List.pairwise_cons.mpr ⟨hp, hl⟩
      · refine List.pairwise_cons.mpr ⟨fun q hq => ?_, ih hl⟩
        rcases Sparse.mem_put hq with rfl | hq
        · simp only; omega
        · exact hp q hq

theorem Sparse.del_rising {α : Type} (k : Nat) (l : List (Nat × α)) (h : Sparse.rising l) : Sparse.rising (Sparse.del k l) := by
  induction l with
  | nil => exact h
  | cons p l ih =>
    have ⟨hp, hl⟩ := List.pairwise_cons.mp h
    simp only [Sparse.del]
    split
    · exact hl
    · exact List.pairwise_cons.mpr ⟨fun q hq => hp q (Sparse.mem_del hq), ih hl⟩

/-! ## The canonical form -/

theorem Memory.wf_iff (m : List Host.Cell) :
    Memory.wf m = true ↔ Sparse.rising m ∧ ∀ p ∈ m, p.2 ≠ blankByte := by
  induction m with
  | nil => simp [Memory.wf]
  | cons p l ih =>
    cases l with
    | nil => simp [Memory.wf]
    | cons q l =>
      simp only [Memory.wf, Bool.and_eq_true, decide_eq_true_eq, ih]
      constructor
      · rintro ⟨⟨hb, ha⟩, hr, hn⟩
        refine ⟨List.pairwise_cons.mpr ⟨fun r hr' => ?_, hr⟩, fun r hr' => ?_⟩
        · rcases List.mem_cons.mp hr' with rfl | h
          · exact ha
          · exact lt_trans ha ((List.pairwise_cons.mp hr).1 r h)
        · rcases List.mem_cons.mp hr' with rfl | h
          · exact hb
          · exact hn r h
      · rintro ⟨hr, hn⟩
        have ⟨h1, h2⟩ := List.pairwise_cons.mp hr
        exact ⟨⟨hn p (by simp), h1 q (by simp)⟩, h2, fun r h => hn r (by simp [h])⟩

theorem Memory.write_wf (m : List Host.Cell) (a : Nat) (b : Byte) (h : Memory.wf m = true) :
    Memory.wf (Memory.write m a b) = true := by
  have ⟨hr, hn⟩ := (Memory.wf_iff m).mp h
  rw [Memory.wf_iff]
  simp only [Memory.write]
  split
  · exact ⟨Sparse.del_rising a m hr, fun p hp => hn p (Sparse.mem_del hp)⟩
  · rename_i e
    refine ⟨Sparse.put_rising a b m hr, fun p hp => ?_⟩
    rcases Sparse.mem_put hp with rfl | hp
    · exact e
    · exact hn p hp

theorem Memory.writeBytes_wf (l : List Byte) (m : List Host.Cell) (a : Nat) (h : Memory.wf m = true) :
    Memory.wf (Memory.writeBytes m a l) = true := by
  induction l generalizing m a with
  | nil => exact h
  | cons b l ih => exact ih _ _ (Memory.write_wf m a b h)

theorem writeSlot_wf (m : List Host.Cell) (i : StoreItem) (h : Memory.wf m = true) : Memory.wf (writeSlot m i) = true :=
  Memory.writeBytes_wf _ _ _ h

theorem reset_store_wf : Memory.wf State.reset.sc.store = true := rfl

/-! ## Reading after writing -/

theorem Memory.read_write_same (m : List Host.Cell) (a : Nat) (b : Byte) (h : Memory.wf m = true) :
    Memory.read (Memory.write m a b) a = b := by
  have ⟨hr, _⟩ := (Memory.wf_iff m).mp h
  simp only [Memory.read, Memory.write]
  split
  · rename_i e; rw [Sparse.get_del_same a m hr, e]; rfl
  · rw [Sparse.get_put_same]; rfl

theorem Memory.read_write_ne (m : List Host.Cell) (a c : Nat) (b : Byte) (h : c ≠ a) :
    Memory.read (Memory.write m a b) c = Memory.read m c := by
  simp only [Memory.read, Memory.write]
  split
  · rw [Sparse.get_del_ne a c m h]
  · rw [Sparse.get_put_ne a c b m h]

theorem Memory.read_writeBytes_outside (l : List Byte) (m : List Host.Cell) (a c : Nat) (h : c < a ∨ a + l.length ≤ c) :
    Memory.read (Memory.writeBytes m a l) c = Memory.read m c := by
  induction l generalizing m a with
  | nil => rfl
  | cons b l ih =>
    simp only [List.length_cons] at h
    rw [Memory.writeBytes, ih _ _ (by omega), Memory.read_write_ne _ _ _ _ (by omega)]

theorem Memory.read_writeBytes_inside (l : List Byte) (m : List Host.Cell) (a j : Nat) (hm : Memory.wf m = true)
    (h : j < l.length) : Memory.read (Memory.writeBytes m a l) (a + j) = l.getD j 0 := by
  induction l generalizing m a j with
  | nil => simp at h
  | cons b l ih =>
    cases j with
    | zero =>
      rw [Memory.writeBytes, Memory.read_writeBytes_outside _ _ _ _ (by omega), Nat.add_zero,
        Memory.read_write_same _ _ _ hm]
      rfl
    | succ j =>
      rw [Memory.writeBytes, show a + (j + 1) = a + 1 + j by omega,
        ih _ _ _ (Memory.write_wf m a b hm) (by simpa using h)]
      rfl

/-- A slot reads as the image written to it. -/
theorem readSlot_writeSlot_same (m : List Host.Cell) (i : StoreItem) (hm : Memory.wf m = true)
    (h : i.bytes.length = i.slot.size) : readSlot (writeSlot m i) i.slot = i.bytes := by
  refine List.ext_getElem (by simp [readSlot, Memory.readBytes, h]) fun j h1 h2 => ?_
  simp only [readSlot, Memory.readBytes, List.getElem_map, List.getElem_range]
  rw [writeSlot, Memory.read_writeBytes_inside _ _ _ _ hm h2]
  simp [h2]

end Sys2Proof.Machine
end

