-- ==== Sys2Proof/Laws/Ops.lean ====
section
/-! SUPPORT. What the shared operations answer: one lemma says once every case of an operation, and later proofs cite it. -/

namespace Sys2Proof.Machine

/-! ## Edges (R165 to R167) -/

/-- An edge is ignored, or sets its flag, stamps an empty set and is announced. -/
theorem takeEdge_cases (k : Cond) (c : Col) (rise : Bool) (s : State) :
    (newlySets s k c rise = false ∧ takeEdge k c rise s = s) ∨
    (newlySets s k c rise = true ∧ takeEdge k c rise s = announce (setPending k c s)) := by
  unfold takeEdge
  cases newlySets s k c rise <;> simp

/-- A report of a level changes nothing, or changes the level and is an edge. -/
theorem raise_cases (k : Cond) (c : Col) (s : State) :
    ((s.inRun = false ∨ s.level k c = true) ∧ raise k c s = s) ∨
    (s.inRun = true ∧ s.level k c = false ∧
      raise k c s = takeEdge k c true (s.setAcu { s.acu with levels := s.acu.levels ||| positionBit (k.position c) })) := by
  unfold raise
  cases h : s.inRun <;> cases h' : s.level k c <;> simp

/-- A report of a fall changes nothing, or changes the level and is an edge. -/
theorem lower_cases (k : Cond) (c : Col) (s : State) :
    ((s.inRun = false ∨ s.level k c = false) ∧ lower k c s = s) ∨
    (s.inRun = true ∧ s.level k c = true ∧
      lower k c s = takeEdge k c false (s.setAcu { s.acu with levels := s.acu.levels &&& ~~~ positionBit (k.position c) })) := by
  unfold lower
  cases h : s.inRun <;> cases h' : s.level k c <;> simp

/-! ## The transmit queue (R114, R116, R117) -/

theorem mem_insertFrame (f g : TxFrame) (q : List TxFrame) : g ∈ insertFrame f q ↔ g = f ∨ g ∈ q := by
  induction q with
  | nil => simp [insertFrame]
  | cons h q ih =>
    simp only [insertFrame]
    split
    · simp [ih]; tauto
    · simp

@[simp] theorem insertFrame_length (f : TxFrame) (q : List TxFrame) : (insertFrame f q).length = q.length + 1 := by
  induction q with
  | nil => rfl
  | cons h q ih =>
    simp only [insertFrame]
    split <;> simp [ih]

/-- A frame stands behind those of its class and of higher classes, ahead of all others. -/
theorem insertFrame_eq (f : TxFrame) (q : List TxFrame) :
    insertFrame f q = q.takeWhile (fun g => decide (g.cls ≤ f.cls)) ++ f :: q.dropWhile (fun g => decide (g.cls ≤ f.cls)) := by
  induction q with
  | nil => rfl
  | cons h q ih =>
    by_cases e : h.cls ≤ f.cls <;> simp [insertFrame, e, ih]

theorem mem_removeFrame (a : Nat) (g : TxFrame) (q : List TxFrame) : g ∈ removeFrame a q ↔ g ∈ q ∧ g.arrival ≠ a := by
  simp [removeFrame]

/-- The head is in access afterwards, or nothing is and the phase is IDLE. -/
theorem rechoose_cases (x : Lc) :
    (x.queue = [] ∧ rechoose x = { x with access := none, phase := .idle }) ∨
    (∃ g l, x.queue = g :: l ∧
      rechoose x = { x with access := some g.arrival, phase := if x.window.isSome then .suspended else .gap }) := by
  unfold rechoose
  cases h : x.queue <;> simp

/-- What an offer does to the queue: refused at address 0, placed, placed for a displaced frame, or dropped. -/
theorem placeFrame_cases (f : TxFrame) (s : State) :
    (placementOf f s = .refused ∧ placeFrame f s = s) ∨
    (placementOf f s = .placed ∧ placeFrame f s = s.setLc (headTakesAccess (putFrame f s.lc))) ∨
    (∃ old, placementOf f s = .displaced old ∧
      placeFrame f s = addCount .txAbandoned 1 (s.setLc (headTakesAccess (putFrame f (displace old s.lc))))) ∨
    (placementOf f s = .dropped ∧ placeFrame f s = addCount .txAbandoned 1 s) := by
  unfold placeFrame
  cases h : placementOf f s <;> simp

/-! ## Frames received (R107 to R110) -/

/-- A frame command is stopped at a check, or its owner takes the frame. -/
theorem withFrame_cases (k : Kind) (f : RxFrame) (owner : RxFrame → State → State) (s : State) :
    (∃ t, receiveFrame k.code f s = .stopped t ∧ withFrame k f owner s = t) ∨
    (∃ t, receiveFrame k.code f s = .dispatched t ∧ withFrame k f owner s = owner f t) := by
  unfold withFrame
  cases h : receiveFrame k.code f s <;> simp

/-- Outside RUN no frame is received. -/
theorem withFrame_of_not_inRun (k : Kind) (f : RxFrame) (owner : RxFrame → State → State) (s : State) (h : s.inRun = false) :
    withFrame k f owner s = s := by
  simp [withFrame, receiveFrame, h]

/-! ## The store group (R59 to R61, R159) -/

/-- The store goes on with the write in flight, begins with a staged record, else with a queue item, or stays free. -/
theorem beginWrite_cases (s : State) :
    (s.sc.inFlight.isSome = true ∧ beginWrite s = s) ∨
    (s.sc.inFlight = none ∧ s.sc.staging = [] ∧ s.sc.queue = [] ∧ beginWrite s = s) ∨
    (∃ r rest, s.sc.inFlight = none ∧ s.sc.staging = r :: rest ∧
      beginWrite s = s.setSc { s.sc with staging := rest, inFlight := some ⟨logSlot r.index, r.image⟩ }) ∨
    (∃ i rest, s.sc.inFlight = none ∧ s.sc.staging = [] ∧ s.sc.queue = i :: rest ∧
      beginWrite s = s.setSc { s.sc with queue := rest, inFlight := some i }) := by
  unfold beginWrite
  cases h : s.sc.inFlight <;> cases h' : s.sc.staging <;> cases h'' : s.sc.queue <;> simp

/-- A log record is taken with the next index, or is lost, counted and raised. -/
theorem offerRecord_cases (c : Col) (e : Nat) (body : LogBody) (s : State) :
    (s.sc.staging.length < stagingPlaces ∧ s.dl.next < lastIndex ∧
      offerRecord c e body s = beginWrite ((s.setSc { s.sc with
        staging := s.sc.staging ++ [⟨s.dl.next, s.tu.clock, s.tu.hops, c, e, body⟩] }).setDl s.dl.taken)) ∨
    ((stagingPlaces ≤ s.sc.staging.length ∨ lastIndex ≤ s.dl.next) ∧
      offerRecord c e body s = occur .logLost 0 (count .logLost 1 s)) := by
  unfold offerRecord
  split
  · rename_i h; exact .inl ⟨h.1, h.2, rfl⟩
  · rename_i h; exact .inr ⟨by omega, rfl⟩

/-- The way that a lookup finds is in the image and holds the card in the card's bucket. -/
theorem lookupCard_some {card : Word32} {s : State} {p : Nat × DirWay} (h : lookupCard card s = some p) :
    p ∈ s.cd.image ∧ p.1 / 8 = bucketOf card ∧ p.2.entry.card = card := by
  refine ⟨List.mem_of_find?_eq_some h, ?_⟩
  simpa [holdsCard] using List.find?_some h

/-! ## Slot images (R57, R58) -/

@[simp] theorem withCheck_length (body : List Byte) : (withCheck body).length = body.length + 1 := by simp [withCheck]

@[simp] theorem dirEntry_image_length (e : DirEntry) : e.image.length = 16 := by simp [DirEntry.image, be32, be24, fill]

@[simp] theorem revRecord_image_length (r : RevRecord) : r.image.length = 12 := by simp [RevRecord.image, be32, fill]

@[simp] theorem baseImage_length (b : Nat) : (baseImage b).length = 12 := by simp [baseImage, be32, fill]

@[simp] theorem logRecord_image_length (r : LogRecord) : r.image.length = 24 := by
  cases h : r.body <;> simp [LogRecord.image, LogRecord.bytes, LogBody.bytes, be32, be16, fill, h]

/-! ## Free draws and time -/

/-- A draw is any value of its range and takes one free value. -/
theorem drawUpTo_spec (top : Nat) (s : State) :
    (drawUpTo top s).1 ≤ top ∧ (drawUpTo top s).2 = { s with freeIndex := s.freeIndex + 1 } :=
  ⟨Nat.le_of_lt_succ (Nat.mod_lt _ (Nat.succ_pos top)), rfl⟩

/-- A timer that runs counts on to its limit and one that is stopped stands. -/
theorem Timer.advance_us_le (t : Timer) (dt limit : Nat) (h : t.us ≤ limit) : (t.advance dt limit).us ≤ limit := by
  unfold Timer.advance
  split
  · exact Nat.min_le_left _ _
  · exact h

@[simp] theorem Timer.runOn_us (t : Timer) : t.runOn.us = t.us := rfl
@[simp] theorem Timer.runOn_running (t : Timer) : t.runOn.running = true := rfl

/-- The discarding of the settle failures changes that count of one container alone (R8). -/
theorem discardSettleFailures_spec (c : Col) (s : State) :
    discardSettleFailures c s = { s with cc := s.cc.set c { s.cc.get c with settleFailures := 0 } } := rfl

/-- A slot image holds a log record of an index exactly when its tag, check byte and codes are right and it carries the index
(R58, R193). -/
theorem parseLogIndex_eq_some (l : List Byte) (n : Nat) :
    parseLogIndex l = some n ↔ slotValid 0x5A l = true ∧ logCodesDefined l = true ∧ fieldAt l 1 4 = n := by
  unfold parseLogIndex
  split <;> simp_all

/-- A transducer is driven only in RUN, in BURST of its own measurement (R28). -/
theorem transducerHigh_cases (s : State) (c : Col) (h : s.transducerHigh c = true) :
    s.inRun = true ∧ ∃ m, s.eu.inFlight = some m ∧ m.phase = .burst ∧ m.cont = c ∧ burstHigh (s.ccfg c) m.elapsed = true := by
  unfold State.transducerHigh State.inPhase at h
  split at h
  · rename_i m hm
    split at hm
    · obtain ⟨hm, hp⟩ := Option.filter_eq_some_iff.1 hm
      simp only [Bool.and_eq_true, decide_eq_true_eq] at h hp
      exact ⟨‹_›, m, hm, hp, h.1, h.1 ▸ h.2⟩
    · cases hm
  · cases h

end Sys2Proof.Machine
end

