-- ==== Sys2Proof/Tests/Slice0.lean ====
section
/-! SUPPORT. The model's own tests: the well-formedness checks refuse what they should, single steps give what the spec's worked
cases and rules state, and each statement with hypotheses has a witness that meets them. -/

namespace Sys2Proof.Tests

open Sys2Proof.Machine Sys2Proof.Safety

/-! ## A small station -/

/-- The container of the worked cases of chapter 2: fraction 2, D_floor 2400 mm, H 1900 mm, V 5000 L, v_d 60 L, T_near 700, T_full
900, 2 cycles, burst 16. -/
def bin : ContainerConfig := ⟨2, 2400, 1900, 5000, 60, 700, 900, 2, 0, 16⟩

/-- Station 14 with four such containers, and the default times of R185. -/
def image : ConfigImage :=
  { ConfigImage.blank with
    ownAddress := 14, count := 4, districtPrefix := 0x2A7, measInterval := 600, grantWindow := 20, holdTime := 240
    liftLimit := 900, beaconInterval := 60, periodDays := 7, reportPeriod := 24
    prefs := [⟨12, 0⟩, ⟨21, 1⟩, ⟨17, 2⟩, ⟨16, 3⟩, ⟨0, 0⟩, ⟨0, 0⟩, ⟨0, 0⟩, ⟨0, 0⟩]
    containers := Quad.all bin }

/-- A container in IDLE with its inputs at rest. -/
def idleCc : Cc :=
  { Cc.cold with
    state := .idle, drum := .closed, sense := .engaged, drumSettled := true, senseSettled := true, presentSettled := true }

/-- The fill fields of the worked case 2.5. -/
def fill511 : Fe :=
  { Fe.cold with
    pm := 511, nd := 3, nAtStart := 3, history := [498, 511, 516], e := 547, unknown := false, inc := 12, h := 1900
    tNear := 700 }

/-- The station in RUN, every container IDLE. -/
def station : State :=
  { State.reset with
    cl := { Cl.cold with phase := .run, startKind := .warm, stage := .derivation, image := image }
    cc := Quad.all { idleCc with depositsE := 140 }
    fe := Quad.all fill511
    au := Quad.all Au.afterReset
    lc := { Lc.afterReset with silence := .start } }

/-- The state that a command answers. -/
def after (i : Instr) (s : State) : State :=
  match exec i s with
  | .next t => t
  | .fault _ | .refused _ => s

/-- Container 0 changed. -/
def withCc (f : Cc → Cc) (s : State) : State := { s with cc := s.cc.set 0 (f (s.cc.get 0)) }

/-- A grant of two cycles that is ACTIVE, its window running. -/
def grantA : Grant := ⟨true, 0x2A700001, false, 2, 0, 20, .start, false⟩

/-- Container 0 is GRANTED to card A. -/
def granted : State :=
  withCc (fun x => { x with state := .granted, drive := .release, sense := .released })
    { station with au := station.au.set 0 { Au.afterReset with grant := some grantA } }


/-! ## Witnesses: states and operands that meet the hypotheses of each statement -/

/-- A frame to the station. -/
def frame (src : Byte) (payload : List Byte) : RxFrame := ⟨14, src, 0x42, payload, 1⟩

/-- A frame to every station. -/
def toAll (src : Byte) (payload : List Byte) : RxFrame := ⟨63, src, 0x42, payload, 1⟩

/-- A waiting class-2 or class-0 frame. -/
def waiting (arrival cls : Nat) : TxFrame := { originFrame .revokePull 9 [] with arrival := arrival, cls := cls }

/-- A transmit queue of frames, the head in access. -/
def lineWith (q : List TxFrame) (phase : AccessPhase) : Lc :=
  { Lc.afterReset with queue := q, access := q.head?.map TxFrame.arrival, phase := phase, arrivals := 8, silence := .start }

/-- Eight frames of one class. -/
def eight (cls : Nat) : List TxFrame := (List.range 8).map fun i => waiting i cls

/-- A directory entry of card A and of card Y, and a record that has blocked card Y. -/
def dirA : DirEntry := ⟨0x2A700001, 1, 0, false, 0xFF, 0, false⟩
/-- The station with cards, revocations, a neighbour and a queued frame, container 0 GRANTED: no law below is met for want of
data. -/
def busy : State :=
  { granted with
    cd := ⟨[(8, ⟨dirA, 0⟩), (16, ⟨{ dirA with card := 0x2A700002, blocked := true }, 3⟩)], []⟩
    ru := { Ru.cold with list := [⟨1, 0x2A700002, true⟩], mark := 1 }
    sc := { Sc.cold with queue := [⟨.rev 1, List.replicate 12 1⟩], inFlight := some ⟨.rev 2, List.replicate 12 2⟩ }
    lc := lineWith [waiting 0 0, waiting 1 2] .gap
    nu := { Nu.cold with table := [⟨9, 1, 0, 1, 0, false, [], 7, 1, false, none⟩, ⟨12, 1, 5, 1, 0, false, [], 9, 1, false, some 0⟩] }
    dl := ⟨0, 3⟩
    tu := ⟨100, 3, 0, .start⟩
    acu := { Acu.cold with pending := 1, latch := some 5, levels := 1 }
    pending := [.windowTimerExpiry 20000000 0] }

theorem witness_StepTakesTheFrontCommand :
    busy.pending = [.windowTimerExpiry 20000000 0] ∧ station.pending = [] := by decide

theorem witness_TimePassesAndAdds :
    State.reset.inRun = false ∧ busy.inRun = true ∧ busy.lc.busy = false ∧ busy.lc.phase ≠ .sending ∧ busy.lc.ownSlot = 0 ∧
    { busy with cl := { busy.cl with image := { image with auto := true } } }.cfg.auto = true := by decide

theorem witness_StepKeepsLocksAndGrants :
    (PhaseLaw busy ∧ LocksLaw busy ∧ GrantsAgree busy ∧ GrantsDistinct busy) ∧ ∃ t, step busy = .next t :=
  ⟨by decide, _, rfl⟩

/-- A container that is HELD for a round. -/
def held : State := withCc (fun x => { x with state := .held, roundId := some 4711, hold := .start }) busy

theorem witness_StepKeepsRounds :
    (PhaseLaw held ∧ RoundsLaw held) ∧ ∃ t, step held = .next t := ⟨by decide, _, rfl⟩

theorem witness_StepKeepsFillAndDeposits :
    ((∀ c : Col, FillLaw (busy.fe.get c)) ∧ DepositsLaw busy) ∧ ∃ t, step busy = .next t := ⟨by decide, _, rfl⟩

theorem witness_StepKeepsDirectoryAndRevocations :
    (DirectoryLaw busy.cd ∧ StatusLaw busy ∧ RevocationLaw busy.ru) ∧ ∃ t, step busy = .next t := ⟨by decide, _, rfl⟩

theorem witness_StepKeepsLogAndStore :
    (LogLaw busy.dl ∧ StoreQueues busy.sc ∧ ItemsFit busy.sc ∧ Memory.wf busy.sc.store = true) ∧ ∃ t, step busy = .next t :=
  ⟨by decide, _, rfl⟩

theorem witness_StepKeepsTransmitQueue :
    (QueueOrdered busy.lc ∧ AccessLaw busy.lc) ∧ ∃ t, step busy = .next t := ⟨by decide, _, rfl⟩

theorem witness_StepKeepsNeighbourTable :
    (PhaseLaw busy ∧ NeighbourLaw busy) ∧ ∃ t, step busy = .next t := ⟨by decide, _, rfl⟩

theorem witness_StepKeepsAlarmsAndCounters :
    (AlarmLaw busy.acu ∧ CountersBounded busy.acu.live ∧ CountersBounded busy.acu.copies) ∧ ∃ t, step busy = .next t :=
  ⟨by decide, _, rfl⟩

theorem witness_StepKeepsConfigurationAndTime :
    (ConfigLaw busy.cl ∧ TimeLaw busy.tu) ∧ ∃ t, step busy = .next t :=
  ⟨⟨fun _ => by decide, by decide⟩, _, rfl⟩

theorem witness_EdgesAnnounceAndCountersSaturate :
    State.reset.inRun = false ∧ busy.inRun = true ∧ busy.acu.levels.getLsbD (Cond.position .lineSilent 0) = true ∧
    busy.acu.levels.getLsbD (Cond.position .lockFault 0) = false ∧
    (let newly := fun (s : State) (k : Cond) => !s.cfg.masked.getLsbD k.code && !s.acu.pending.getLsbD (k.position 0)
     newly busy .lineSilent = false ∧ newly busy .lockFault = true) ∧
    (busy.cfg.ownAddress ≠ 0 ∧ (∀ g ∈ busy.lc.queue, g.kind ≠ .alarm) ∧ busy.lc.queue.length < 8) ∧
    (∃ g ∈ [alarmFrame], g.kind = .alarm) ∧ busy.cfg.masked.getLsbD 5 = false ∧
    (let top := { busy.acu.live with framesTx := 65534 }
     top.get .framesTx < 65535 ∧ 65535 ≤ top.get .framesTx + 1) := by decide

theorem witness_OffersJoinByClass :
    State.reset.cfg.ownAddress = 0 ∧
    (busy.cfg.ownAddress ≠ 0 ∧ busy.lc.queue.length < 8 ∧ busy.acu.live.txAbandoned ≠ 65534) ∧
    (let x := lineWith (eight 2) .gap
     8 ≤ x.queue.length ∧ alarmFrame.cls < 2 ∧ (waiting 9 2).cls = 2 ∧
     ∃ h ∈ x.queue, h.cls = 2 ∧ ¬(x.phase = .sending ∧ x.access = some h.arrival)) ∧
    (let x := lineWith (eight 0) .gap
     8 ≤ x.queue.length ∧ ∀ h ∈ x.queue, ¬(h.cls = 2 ∧ ¬(x.phase = .sending ∧ x.access = some h.arrival))) ∧
    (let x := { lineWith (eight 2) .backoff with access := some 7 }
     x.access ≠ some 0 ∧ x.phase = .backoff) ∧
    (let x := lineWith (eight 2) .backoff
     x.access = some 0 ∧ x.phase ≠ .sending) := by decide

theorem witness_ItemsAndRecordsWaitForTheStore :
    busy.sc.inFlight.isSome = true ∧ (station.sc.inFlight = none ∧ station.sc.staging = [] ∧ station.sc.queue = []) ∧
    (busy.sc.staging.length < 8 ∧ busy.dl.next < 4294967295) ∧
    8 ≤ (List.replicate 8 (LogRecord.mk 0 0 0 0 0 .inferredEmptied)).length ∧
    (busy.inRun = true ∧ busy.cfg.masked.getLsbD 4 = false) := by decide

/-! ### Power and the start -/

/-- The part without power. -/
def off : State := { State.reset with cl := { Cl.cold with powered := false } }
/-- The part while RESET_N is low. -/
def lowReset : State := { State.reset with cl := { Cl.cold with resetLow := true } }

theorem witness_PowerStartsAndStopsThePart :
    off.cl.powered = false ∧
    (busy.cl.powered = true ∧ Memory.wf busy.sc.store = true ∧ ItemsFit busy.sc ∧ busy.sc.inFlight.isSome = true) ∧
    State.reset.sc.inFlight = none := by decide

theorem witness_ResetsTakeTheWarmValues :
    (busy.cl.powered = true ∧ busy.cl.resetLow = false ∧ busy.cl.startKind = .warm) ∧
    (State.reset.cl.powered = true ∧ State.reset.cl.resetLow = false ∧ State.reset.cl.startKind = .cold) ∧
    (off.cl.powered = false ∧ off.cl.resetLow = false) ∧ lowReset.cl.resetLow = true := by decide

theorem image_take (l : List Byte) (n : Nat) (h : l.length = 190) : (l ++ be16 n).take 190 = l := by
  rw [List.take_append_of_le_length (by omega), ← h, List.take_length]

theorem image_field (l : List Byte) (n : Nat) (h : l.length = 190) (hn : n < 65536) : fieldAt (l ++ be16 n) 190 2 = n := by
  have e : (l ++ be16 n).drop 190 = be16 n := by rw [← h, List.drop_left]
  rw [fieldAt, e]
  simp only [be16, List.take, fromBe, List.foldl, BitVec.toNat_ofNat]
  omega

/-- The first 190 bytes of an image. -/
def blankImage : List Byte := List.replicate 190 0

theorem blankImage_length : blankImage.length = 190 := List.length_replicate

theorem witness_ImageReadsDecideTheStart_good :
    (State.reset.atStage .image = true ∧ State.reset.sc.inFlight = none) ∧
    (let b := blankImage ++ be16 (crc16 blankImage).toNat
     192 ≤ b.length ∧ (crc16 (b.take 190)).toNat = fieldAt b 190 2) := by
  refine ⟨by decide, by rw [List.length_append, blankImage_length]; exact Nat.le_refl 192, ?_⟩
  rw [image_take _ _ blankImage_length, image_field _ _ blankImage_length (BitVec.isLt _)]

theorem witness_ImageReadsDecideTheStart_bad :
    ([] : List Byte).length < 192 ∧
    (let b := blankImage ++ be16 (((crc16 blankImage).toNat + 1) % 65536)
     (crc16 (b.take 190)).toNat ≠ fieldAt b 190 2) := by
  refine ⟨by decide, ?_⟩
  simp only
  rw [image_take _ _ blankImage_length, image_field _ _ blankImage_length (Nat.mod_lt _ (by decide))]
  omega

/-- The part at a stage of STARTING. -/
def starting (stage : StartStage) : State :=
  { State.reset with cl := { Cl.cold with stage := stage, image := image, clamped := true } }

theorem witness_StoreWorkRebuildsTheState :
    (starting .storeWork).atStage .storeWork = true ∧ (starting .storeWork).sc.inFlight = none ∧
    DirectoryLaw (starting .storeWork).cd := by decide

/-- A store whose log slots hold EMPTIED records of some indices. -/
def logStore (indices : List Nat) : List Host.Cell :=
  indices.foldl (fun m i => writeSlot m ⟨logSlot i, (⟨i, 5, 1, 0, 0, .emptied 4711 571 95 140⟩ : LogRecord).image⟩) []

/-- Witness of the log clauses of StoreWorkRebuildsTheState: the highest index that takes part is 4294967294, the run below it one
record long, and 4294967291 stays outside it. -/
theorem witness_StoreWorkScansTheLog :
    let s := { starting .storeWork with sc := { Sc.cold with store := logStore [4294967291, 4294967293, 4294967294] } }
    let logOf := fun (i : Nat) => (parseLogIndex (readSlot s.sc.store (.log i))).filter fun n => n % 1024 = i
    s.atStage .storeWork = true ∧ Memory.wf s.sc.store = true ∧ logOf 1022 = some 4294967294 ∧ logOf 1021 = some 4294967293 ∧
    logOf 1020 = none ∧ logOf 1019 = some 4294967291 := by
  decide +kernel

/-- R163: next is H + 1, oldest the lowest of the run, also at the highest index that next can follow. -/
theorem test_log_scan :
    scanLog (logStore [4294967291, 4294967293, 4294967294]) = ⟨4294967293, 4294967295⟩ := by
  decide +kernel

/-- A warm start at the derivation: EU's records are those of before. -/
def warmStart : State :=
  let s := starting .derivation
  { s with eu := { s.eu with cols := Quad.all { EuCol.cold with fresh := false } } }

theorem witness_DerivationEntersRun :
    (starting .derivation).atStage .derivation = true ∧
    (0 < (starting .derivation).cl.image.count ∧ { image with count := 3 }.count ≤ (3 : Col).val) ∧
    ((starting .derivation).cl.clamped = true ∧ (starting .derivation).cfg.masked.getLsbD 7 = false) ∧
    ({ Sc.cold with logLostDue := true }.logLostDue = true ∧ { Sc.cold with counterFullDue := true }.counterFullDue = true ∧
      (starting .derivation).cfg.masked.getLsbD 5 = false) ∧
    (let s := starting .derivation
     s.lc.queue = [] ∧ s.cfg.ownAddress ≠ 0 ∧ (after (.containerStateDerivation 0) s).acu.pending ≠ 0 ∧
     (let calm := after (.containerStateDerivation 0) (s.setCl { s.cl with clamped := false })
      calm.acu.pending = 0)) ∧
    ((starting .derivation).eu.cols.get 0).fresh = true ∧
    (warmStart.atStage .derivation = true ∧ 0 < warmStart.cl.image.count ∧ (warmStart.eu.cols.get 0).fresh = false ∧
      warmStart.eu.inFlight = none ∧ (warmStart.cc.get 0).present = .present) := by decide

/-- R24, R46: entry to RUN after a warm start sets no request flag and begins no measurement. -/
theorem test_warm_entry_measures_nothing :
    let t := after (.containerStateDerivation 0) warmStart
    t.inRun = true ∧ t.eu.inFlight = none ∧ (t.eu.cols.get 0).request = false := by decide

/-! ### The columns -/

/-- Container 0 is DEPOSITING, its drum open for 7 s. -/
def depositing : State :=
  withCc (fun x => { x with state := .depositing, drum := .opened, opening := ⟨7000000, true⟩, drumTimer := ⟨7000000, true⟩ })
    granted

/-- Container 0 is LIFTED for round 4711. -/
def lifted : State :=
  withCc (fun x => { x with state := .lifted, present := .absent, roundId := some 4711, fillBefore := 571, lift := ⟨95000000, true⟩ })
    station

/-- Container 0 in a state with an ENGAGE drive. -/
def inState (st : CcState) : State := withCc (fun x => { x with state := st }) station

/-- Container 0 is in FAULT with its drum open and its lock sense RELEASED. -/
def fault : State := withCc (fun x => { x with state := .fault, drum := .opened, sense := .released }) station

theorem witness_GrantsEndAndCurtail :
    (granted.inRun = true ∧ underGrant (granted.cc.get 0) ∧ (granted.cc.get 0).drive = .release ∧
      (granted.au.get 0).grant = some grantA) ∧
    (granted.cc.get 0).state = .granted ∧ (depositing.cc.get 0).state = .depositing ∧ ¬underGrant (station.cc.get 0) ∧
    (GrantsDistinct granted ∧ grantA.card = 0x2A700001 ∧ grantA.active = true ∧ { grantA with active := false }.active = false) ∧
    (∀ c : Col, ∀ g ∈ (granted.au.get c).grant, g.card ≠ 0x2A700002) := by decide

theorem witness_CyclesCountEverywhere :
    (depositing.inRun = true ∧ (depositing.au.get 0).grant = some grantA) ∧ depositing.serves 0 = true ∧
    (depositing.cc.get 0).present = .present ∧ nextClass .openClass 547 700 900 ≠ .full ∧
    nextClass .near 904 700 900 = .full := by decide

theorem witness_LevelsSettleWithoutEvents :
    (State.reset.cl.powered = true ∧ State.reset.inRun = false) ∧
    (station.serves 0 = true ∧ (station.cc.get 0).drumSettled = true ∧ (station.cc.get 0).drum = .closed) ∧
    (let s := withCc (fun x => { x with drumSettled := false }) station
     s.serves 0 = true ∧ (s.cc.get 0).drumSettled = false ∧ (s.cc.get 0).drum ≠ .opened) ∧
    off.cl.powered = false ∧
    (let s := { station with cl := { station.cl with image := { image with count := 3 } } }
     s.inRun = true ∧ s.inUse 3 = false) := by decide

theorem witness_DrumOpenDepositsOrForces :
    ∀ s ∈ [granted, lifted, inState .fault, inState .idle, inState .full, inState .settling, inState .held, inState .missing],
      s.serves 0 = true ∧ (s.cc.get 0).drum = .closed ∧ ((s.cc.get 0).drive = .release ↔ underGrant (s.cc.get 0)) := by decide

theorem witness_DrumClosedDecidesTheGrant :
    depositing.serves 0 = true ∧ (depositing.cc.get 0).state = .depositing ∧ (depositing.cc.get 0).drum = .opened ∧
    (depositing.cc.get 0).drive = .release ∧ 1000000 ≤ (depositing.cc.get 0).opening.us ∧
    (depositing.au.get 0).grant = some grantA := by decide

theorem witness_LockFaultsComeAndGo :
    (fault.serves 0 = true ∧ ((fault.cc.get 0).state = .fault → (fault.cc.get 0).drive = .engage) ∧
      (fault.cc.get 0).drum = .opened ∧ (fault.cc.get 0).state ≠ .depositing ∧ (fault.cc.get 0).sense = .released) ∧
    (station.cc.get 0).sense = .engaged ∧
    (let s := withCc (fun x => { x with confirm := .start, sense := .engaged }) granted
     s.serves 0 = true ∧ (s.cc.get 0).confirm.running = true ∧
      ((s.cc.get 0).drive = .release ↔ underGrant (s.cc.get 0)) ∧ (s.cc.get 0).drum = .closed ∧ (s.cc.get 0).sense = .engaged ∧
      (s.cc.get 0).state = .granted ∧ (s.au.get 0).grant = some grantA) ∧
    (∀ st ∈ [CcState.idle, .full, .settling, .held, .lifted, .missing, .fault],
      let s := withCc (fun x => { x with confirm := .start, sense := .released }) (inState st)
      s.serves 0 = true ∧ (s.cc.get 0).confirm.running = true ∧ (s.cc.get 0).sense = .released ∧
      ((s.cc.get 0).drive = .release ↔ underGrant (s.cc.get 0)) ∧ (s.cc.get 0).drum = .closed) := by decide

theorem witness_LiftsAndReturnsOfTheContainer :
    (∀ s ∈ [granted, station, inState .held, withCc (fun x => { x with waitingRound := some 4711 }) granted],
      s.serves 0 = true ∧ (s.cc.get 0).present = .present ∧ ((s.cc.get 0).drive = .release ↔ underGrant (s.cc.get 0)) ∧
      (underGrant (s.cc.get 0) → (s.au.get 0).grant.isSome = true)) ∧
    (∀ s ∈ [lifted, withCc (fun x => { x with state := .missing }) lifted, withCc (fun x => { x with state := .idle }) lifted],
      s.serves 0 = true ∧ (s.cc.get 0).present = .absent ∧ ((s.cc.get 0).drive = .release ↔ underGrant (s.cc.get 0))) := by
  decide

theorem witness_ColumnTimersExpire :
    (depositing.serves 0 = true ∧ (depositing.cc.get 0).drum = .opened ∧ (depositing.cc.get 0).drumTimer.running = true) ∧
    ((lifted.cc.get 0).state = .lifted ∧ (lifted.cc.get 0).drive = .engage ∧ lifted.serves 0 = true) ∧
    (((inState .held).cc.get 0).state = .held ∧ ((inState .held).cc.get 0).drive = .engage) ∧
    ((station.cc.get 0).drumTimer.running = false ∧ (station.cc.get 0).confirm.running = false) := by decide

/-! ### Cards, readers and measurement -/

theorem witness_CardReadsOutsideTheChecks :
    (State.reset.cl.powered = true ∧ State.reset.cl.resetLow = false ∧ State.reset.cl.phase ≠ .run) ∧
    lowReset.cl.resetLow = true ∧
    (granted.serves 0 = true ∧ granted.cl.resetLow = false ∧ (granted.au.get 0).grant = some grantA) := by decide

theorem witness_CardsAreJudgedInOrder :
    busy.serves 1 = true ∧ busy.cl.resetLow = false ∧ (∀ g ∈ (busy.au.get 1).grant, g.card ≠ 0x2A700002) := by decide

theorem witness_ReaderChannelsSendTheNewest :
    (station.cl.powered = true ∧ station.cl.resetLow = false ∧ station.inUse 0 = true) ∧ lowReset.cl.resetLow = true ∧
    (State.reset.au.get 0).sending.isSome = true ∧ (station.au.get 0).sending = none ∧
    (∀ b ∈ [[], [0xC2, 0], [0x00, 0x00], [0xC2, 0x00, crc8 0 [0xC2, 0x00]],
        [0xC1, 0, 0, 0, 0, 0, 2, crc8 0 [0xC1, 0, 0, 0, 0, 0, 2]]],
      b.getLast? ≠ some (crc8 0 b.dropLast) ∨ (byteAt b 0 ≠ 0xC1 ∧ byteAt b 0 ≠ 0xC2) ∨
        (byteAt b 0 = 0xC1 ∧ (b.length ≠ 8 ∨ (byteAt b 6 ≠ 0 ∧ byteAt b 6 ≠ 1))) ∨ (byteAt b 0 = 0xC2 ∧ b.length ≠ 2)) := by
  decide +kernel

theorem witness_GrantRequestsAndWindowExpiry :
    (let s := { station with au := station.au.set 0 { Au.afterReset with grant := some { grantA with active := false } } }
     s.serves 0 = true ∧ ((s.cc.get 0).drive = .release ↔ underGrant (s.cc.get 0)) ∧ (s.cc.get 0).state = .idle ∧
      (s.au.get 0).grant = some { grantA with active := false }) ∧
    ((inState .full).cc.get 0).state ≠ .idle ∧
    ((granted.cc.get 0).state = .granted ∧ ∃ g ∈ (granted.au.get 0).grant, g.active = true) ∧
    (station.cc.get 0).state ≠ .granted := by decide

/-- The station with a measurement of container 0 in flight: T = 8, echo at 8500 µs (worked case 2.5). -/
def flight (phase : MeasPhase) : State :=
  { station with eu := { station.eu with inFlight := some ⟨0, phase, 8, 3361, 1487, 8500⟩ } }

theorem witness_RequestTimersAskForMeasurements :
    (let s := { station with eu := { station.eu with cols := Quad.all ⟨false, .start, .start, .start, false⟩ } }
     s.serves 0 = true ∧ (s.eu.cols.get 0).periodic.running = true ∧ (s.eu.cols.get 0).settle.running = true ∧
      (s.eu.cols.get 0).ret.running = true) ∧
    ((station.eu.cols.get 0).periodic.running = false ∧ (station.eu.cols.get 0).settle.running = false ∧
      (station.eu.cols.get 0).ret.running = false) := by decide

theorem witness_MeasurementsPassTheirPhases :
    (∀ p ∈ [MeasPhase.burst, .blank, .listen], (flight p).inRun = true ∧ (flight p).eu.inFlight.map Measurement.phase = some p) ∧
    (∀ v ∈ [(-55 : Int), 125], -55 ≤ v ∧ v ≤ 125) ∧ (∀ v ∈ [(-56 : Int), 126], v < -55 ∨ 125 < v) := by decide

/-- A measurement of container 0 is in flight, and container 2 is flagged. -/
def flagged (phase : MeasPhase) : State :=
  { flight phase with eu := { (flight phase).eu with cols := station.eu.cols.set 2 { EuCol.cold with request := true } } }

/-- R25, R29, R30: the end and the discard of a flight let the arbiter serve container 2 at once. -/
theorem test_next_is_served :
    (∀ i ∈ [Instr.listenEnd 0, .echoRise 0, .containerAbsent 0 0],
      let t := after i (flagged .listen)
      t.eu.inFlight.map (fun m => (m.cont, m.phase)) = some (2, .burst) ∧ t.eu.pointer = 2 ∧
      (t.eu.cols.get 2).request = false) := by decide

/-- R39, R81: an inferred emptying whose acceptance brings FULL ends the GRANTED grant, GRANT_END recorded first. -/
theorem test_inferred_full_ends_grant :
    let s := { granted with
      fe := granted.fe.set 0 { fill511 with pm := 1000, nd := 100, nAtStart := 0, suspect := 3, history := [30, 30], e := 1000 }
      eu := { granted.eu with inFlight := some ⟨0, .listen, 8, 3361, 1487, 14000⟩ } }
    let u := after (.echoRise 0) s
    u.dl.next = 2 ∧ (u.au.get 0).grant = none ∧ (u.cc.get 0).state = .full ∧
    (u.sc.inFlight.map fun i => i.bytes.getD 9 0) = some 0x0F ∧ (u.sc.staging.map fun r => r.body) = [.inferredEmptied] := by
  decide

theorem witness_MeasurementsEndInReadings :
    (flight .listen).inRun = true ∧
    ((flight .listen).eu.inFlight = some ⟨0, .listen, 8, 3361, 1487, 8500⟩ ∧ 8500 < listenLimit) ∧
    (flight .blank).eu.inFlight = some ⟨0, .blank, 8, 3361, 1487, 8500⟩ ∧
    (((flight .listen).cc.get 0).drive = .release ↔ underGrant ((flight .listen).cc.get 0)) ∧
    (∀ e : Col, ((flight .listen).eu.cols.get e).request = false) ∧
    (((flagged .listen).eu.cols.get 2).request = true ∧ (flagged .listen).inRun = true) ∧
    (∃ f ∈ [{ fill511 with pm := 820, suspect := 3 }], f.emptied = false ∧ f.unknown = false ∧ 30 + 250 < f.pm ∧
      4 ≤ f.suspect + 1) := by decide

theorem witness_ClassMovesThroughTheBands :
    (700 : Nat) + 50 ≤ 900 ∧
    (∀ e ∈ [900, 1000], (900 : Nat) ≤ e) ∧ (∀ e ∈ [700, 899], (700 : Nat) ≤ e ∧ e < 900) ∧
    (∀ e ∈ [670, 699], (700 : Nat) ≤ e + 30 ∧ e < 700) ∧ (∀ e ∈ [0, 669], e + 30 < (700 : Nat)) := by decide

theorem witness_StoreWritesLandAndContinue :
    (busy.cl.powered = true ∧ Memory.wf busy.sc.store = true ∧ ItemsFit busy.sc ∧
      busy.sc.inFlight = some ⟨.rev 2, List.replicate 12 2⟩ ∧ busy.sc.staging = [] ∧
      busy.sc.queue.head? = some ⟨.rev 1, List.replicate 12 1⟩ ∧ busy.cd.held = []) ∧
    station.sc.inFlight = none := by decide

/-! ### Frames -/

/-- The hypotheses that frame statements share: frames of the gateway, a station, a vehicle, directed and broadcast. -/
theorem witness_frames :
    (hears busy (frame 60 []) 1 ∧ fromGateway (frame 60 []) ∧ isDirected busy (frame 60 []) ∧ fromGateway (frame 62 [])) ∧
    (hears busy (toAll 60 []) 0 ∧ isToAll (toAll 60 []) ∧ ¬isDirected busy (toAll 60 [])) ∧
    (hears busy (frame 9 []) 0 ∧ fromStation (frame 9 []) ∧ fromStation (frame 1 []) ∧ fromStation (frame 55 [])) ∧
    (hears busy (frame 56 []) 0 ∧ fromVehicle (frame 56 []) ∧ fromVehicle (frame 59 [])) := by decide

/-- Witness of DirectoryRequestsAreAnswered (with witness_frames): payloads that fit and that do not. -/
theorem witness_DirectoryRequestsAreAnswered :
    hears busy (frame 60 (List.replicate 11 0)) 0 ∧ (frame 60 (List.replicate 11 0)).payload.length = 11 ∧
    (frame 60 [0x2A, 0x70, 0, 1]).payload.length = 4 ∧ (frame 60 []).payload.length ≠ 4 ∧ DirectoryLaw busy.cd := by decide

/-- A pushed record: sequence, card, action. -/
def pushed (seq card : Nat) (action : Byte) : List Byte := be32 seq ++ be32 card ++ [action]

/-- The station waiting for a pull to station 9, with more items queued. -/
def pulling (queued : Nat) : State :=
  { busy with
    ru := { busy.ru with outstanding := some ⟨9, .start⟩ }
    sc := { busy.sc with queue := List.replicate queued ⟨.rev 1, List.replicate 12 1⟩ } }

/-- Witness of PushesApplyRecordsInOrder (with witness_frames): a jump, then a duplicate, a next and an ahead record, and a malformed
one of each kind; a reply from the target of the outstanding pull; and pushes that do not fit. -/
theorem witness_PushesApplyRecordsInOrder :
    (let f := frame 60 ([1, 5] ++ pushed 3 0x2A700001 1 ++ pushed 1 7 1 ++ pushed 4 7 2 ++ pushed 9 7 1 ++ pushed 0 7 1)
     let n := (byteAt f.payload 1).toNat
     hears busy f 0 ∧ fromGateway f ∧ isDirected busy f ∧ 2 ≤ f.payload.length ∧ n ≤ 8 ∧ f.payload.length = 2 + 9 * n ∧
      (byteAt f.payload 0).getLsbD 0 = true ∧ busy.ru.mark < fieldAt f.payload 2 4 ∧
      (lookupCard (BitVec.ofNat 32 (fieldAt f.payload 6 4)) busy).isSome = true ∧
      fieldAt f.payload 11 4 ≤ busy.ru.mark ∧ fieldAt f.payload 20 4 = fieldAt f.payload 2 4 + 1 ∧
      fieldAt f.payload 20 4 + 1 < fieldAt f.payload 29 4 ∧ fieldAt f.payload 38 4 = 0) ∧
    (let f := frame 9 ([0, 2] ++ pushed 2 7 1 ++ pushed 3 7 3)
     let n := (byteAt f.payload 1).toNat
     hears (pulling 15) f 0 ∧ fromStation f ∧ isDirected (pulling 15) f ∧ n ≤ 8 ∧ f.payload.length = 2 + 9 * n ∧
      fieldAt f.payload 2 4 = (pulling 15).ru.mark + 1 ∧ (lookupCard 7 (pulling 15)).isNone = true ∧
      (pulling 15).sc.queue.length + 1 = 16 ∧ (pulling 16).sc.queue.length + 1 = 17 ∧
      byteAt f.payload 19 ≠ 1 ∧ byteAt f.payload 19 ≠ 2 ∧
      (pulling 15).ru.outstanding.any (fun o => decide (o.target = f.src.toNat)) = true) ∧
    ¬2 ≤ (frame 60 [0]).payload.length ∧ (frame 60 [0, 1]).payload.length ≠ 2 + 9 * 1 := by decide

/-- R95 (log entry 53): a jump to 3 ends a pull wanted for 9, and the records after it are taken against the new mark. -/
theorem test_jump_ends_want :
    let s := { station with ru := { Ru.cold with mark := 1, wanted := some (.station 9, 9) } }
    let t := after (.revokePush 0 (frame 60 ([1, 2] ++ pushed 3 7 1 ++ pushed 4 8 1))) s
    t.ru.wanted = none ∧ t.ru.mark = 4 ∧ t.ru.base = 2 := by decide +kernel

/-- R92, R98 (log entry 54): the pull that an ahead record of a push sends stays outstanding at the end of that push; one that was
outstanding to the source when the push came ends. -/
theorem test_push_ends_pull :
    (let t := after (.revokePush 0 (frame 9 ([0, 1] ++ pushed 5 7 1))) busy
     t.ru.mark = 1 ∧ t.ru.outstanding = some ⟨9, .start⟩) ∧
    (after (.revokePush 0 (frame 9 [0, 0])) (pulling 0)).ru.outstanding = none := by decide +kernel

/-- Witness of PullsAreServedFromTheList: a pull above the mark, within the list and below the oldest. -/
theorem witness_PullsAreServedFromTheList :
    RevocationLaw busy.ru ∧ hears busy (frame 9 (be32 2)) 0 ∧ (frame 9 (be32 2)).payload.length = 4 ∧
    busy.ru.mark < fieldAt (be32 2) 0 4 ∧
    (fieldAt (be32 1) 0 4 ≤ busy.ru.mark ∧ busy.ru.mark - busy.ru.list.length + 1 ≤ fieldAt (be32 1) 0 4) ∧
    (fieldAt (be32 0) 0 4 ≤ busy.ru.mark ∧ fieldAt (be32 0) 0 4 < busy.ru.mark - busy.ru.list.length + 1) := by decide

theorem witness_PullsGoWhenTheTestPasses :
    (let s := { busy with ru := { busy.ru with wanted := some (.best, 9) } }
     NeighbourLaw s ∧ s.ru.outstanding = none ∧ 10000000 ≤ s.ru.holdoff.us ∧ s.ru.wanted = some (.best, 9) ∧
      (s.nu.table.filter fun n => decide (s.ru.mark < n.mark)) ≠ []) ∧
    busy.ru.wanted = none ∧
    (let s := { busy with ru := { busy.ru with outstanding := some ⟨9, .start⟩, holdoff := .start } }
     let f := frame 9 (be32 5 ++ be32 9)
     hears s f 0 ∧ f.payload.length = 8 ∧ (∃ o ∈ s.ru.outstanding, o.target = f.src.toNat) ∧
      s.ru.mark < fieldAt f.payload 4 4 ∧ s.ru.outstanding.isSome = true ∧ s.ru.holdoff.running = true) ∧
    busy.ru.holdoff.running = false := by decide

/-- Witness of TimeSetsTheClock and TheClockCountsAndAges (with witness_frames). -/
theorem witness_clock :
    (frame 60 (be32 5000000)).payload.length = 4 ∧ (frame 60 []).payload.length ≠ 4 ∧ busy.cl.powered = true ∧
    (busy.tu.hops ≠ 15 ∧ busy.tu.aging.running = true) ∧ State.reset.tu.hops = 15 := by decide

/-- Witness of BeaconsKeepTheTable: a beacon of one container from a held neighbour and from a new one. -/
theorem witness_BeaconsKeepTheTable :
    (let b : List Byte := List.replicate 12 0 ++ [1] ++ List.replicate 5 0
     let count' := (byteAt b 12).toNat
     hears busy (toAll 9 b) 0 ∧ NeighbourLaw busy ∧ busy.tu.hops ≤ 15 ∧ 1 ≤ count' ∧ count' ≤ 4 ∧ b.length = 13 + 5 * count') ∧
    (busy.nu.table.find? fun n => decide (n.address = 9)).isSome = true ∧
    ((busy.nu.table.find? fun n => decide (n.address = 8)) = none ∧ busy.nu.table.length < 16) ∧
    ((List.range 16).map fun i => (⟨i + 1, 0, 0, 0, 0, false, [], 0, 0, false, none⟩ : Neighbour)).length = 16 := by decide

theorem witness_BeaconTimersAndAges :
    busy.inRun = true ∧ busy.nu.holdoff.running = false ∧
    (let x := { busy.nu with holdoff := .start, early := true }
     x.holdoff.running = true ∧ x.early = true) := by decide

theorem witness_RollcallsNameTheContainers :
    (hears busy (toAll 57 [4, 70, 57]) 0 ∧ fromVehicle (toAll 57 [4, 70, 57]) ∧ isToAll (toAll 57 [4, 70, 57])) ∧
    (let x := { lineWith [waiting 0 2] .suspended with window := some ⟨12500, some 880, false⟩ }
     x.window = some ⟨12500, some 880, false⟩ ∧ QueueOrdered x ∧ x.busy = false ∧ x.queue.head? = some (waiting 0 2) ∧
      (∀ g ∈ x.queue, x.idle < 72 * 625)) ∧
    72 * 625 ≤ { lineWith [waiting 0 2] .suspended with idle := 45000 }.idle ∧ busy.lc.window = none := by decide

/-- Witness of ClaimsAndReleasesFollowTheTable (with witness_frames). -/
theorem witness_ClaimsAndReleasesFollowTheTable :
    busy.cfg.count ≤ 4 ∧ (∀ c : Col, (busy.cc.get c).drive = .release ↔ underGrant (busy.cc.get c)) ∧
    hears busy (frame 57 [0, 0x12, 0x67]) 0 ∧ (frame 57 [0, 0x12, 0x67]).payload.length = 3 := by decide

/-- Witness of QueriesReportTheStation and QueriesReadTheDirectoryAndLog (with witness_frames). -/
theorem witness_queries :
    (∀ l ∈ [[], [(0 : Byte)], [0x2A, 0x70, 0, 1], [0, 0, 0, 0, 4]], hears busy (frame 60 l) 1) ∧
    (∀ b ∈ ([0, 9] : List Byte).head?, b = 0 ∨ 7 < b.toNat) ∧ (∀ b ∈ ([8] : List Byte).head?, b = 0 ∨ 7 < b.toNat) := by decide

theorem witness_RestartsFollowTheirReply :
    (hears busy (frame 60 []) 0 ∧ busy.cl.resetLow = false ∧ busy.restartPromised = false ∧ busy.lc.queue.length < 8) ∧
    (let x := lineWith (eight 0) .gap
     8 ≤ x.queue.length ∧ ∀ h ∈ x.queue, ¬(h.cls = 2 ∧ ¬(x.phase = .sending ∧ x.access = some h.arrival))) ∧
    { busy with restartPromised := true }.restartPromised = true ∧
    ({ image with auto := true }.auto = true ∧ Timer.start.running = true) := by decide

/-! ### The line -/

/-- The bytes of a frame of a kind, with its CRC. -/
def bytesOf (dest src kind : Byte) (payload : List Byte) : RawFrame :=
  let body := [dest, src, kind, 0x42, BitVec.ofNat 8 payload.length] ++ payload
  ⟨body ++ be16 (crc16 body).toNat, false, 1⟩

theorem witness_FramesStopAtTheirCheck :
    (let r := bytesOf 14 60 10 []
     let b := r.bytes
     let len := (byteAt b 4).toNat
     busy.inRun = true ∧ r.framingError = false ∧ 7 ≤ b.length ∧ len ≤ 96 ∧ b.length = 7 + len ∧
      fieldAt b (5 + len) 2 = (crc16 (b.take (5 + len))).toNat) ∧
    State.reset.inRun = false ∧ ¬7 ≤ (RawFrame.mk [0, 0] false 1).bytes.length ∧ busy.cfg.ownAddress = 14 := by decide +kernel

theorem witness_FramesRunAsTheirKind : (frame 60 [0, 1]).payload.length ≤ 95 := by decide

theorem witness_ActivityAndSilence :
    busy.inRun = true ∧ busy.lc.silence.running = true ∧
    (withCc id { busy with lc := { busy.lc with silence := .stoppedAt silenceLimit } }).lc.silence.running = false := by decide

theorem witness_AccessLeadsToTransmission :
    QueueOrdered busy.lc ∧ (waiting 0 0 ∈ busy.lc.queue ∧ busy.lc.access = some (waiting 0 0).arrival) ∧
    (busy.lc.phase = .gap ∧ busy.lc.busy = false ∧ busy.lc.window = none) ∧
    (let x := lineWith [{ waiting 0 2 with backoff := some 3 }] .backoff
     x.phase = .backoff ∧ x.busy = false ∧ QueueOrdered x) := by decide

theorem witness_TransmissionsEnd :
    (busy.inRun = true ∧ busy.cl.resetLow = false) ∧
    (let f := { waiting 0 0 with deadline := some 6000000, attempts := 7, departure := true }
     let x := lineWith [f, waiting 1 2] .sending
     QueueOrdered x ∧ f ∈ x.queue ∧ x.phase = .sending ∧ x.access = some f.arrival ∧ x.queue[0]? = some f ∧
      (∃ n ∈ f.deadline, 6000000 ≤ n) ∧ f.deadline.isSome = true ∧ 7 ≤ f.attempts) ∧
    (let x := lineWith [waiting 0 0, { waiting 1 2 with deadline := some 0 }] .gap
     QueueOrdered x ∧ x.access ≠ some 1 ∧ x.phase ≠ .sending) := by decide

/-! ## Well-formedness: each check refuses an ill-formed command -/

theorem test_wf_image_too_long : (Instr.configurationImageRead 0 (List.replicate 193 0)).wellFormed = false := by
  decide +kernel
theorem test_wf_discarded_message_is_a_repeat :
    (Instr.readerMessageDiscarded 0 0 [0xC2, crc8 0 [0xC2]]).wellFormed = false := by decide
theorem test_wf_payload_too_long : (Instr.dirPut 0 ⟨14, 60, 0, List.replicate 97 0, 0⟩).wellFormed = false := by
  simp [Instr.wellFormed, RxFrame.fits]
theorem test_wf_query_too_long : (Instr.queryAlarms 0 ⟨14, 60, 0, List.replicate 96 0, 0⟩).wellFormed = false := by
  simp [Instr.wellFormed, RxFrame.fits]
theorem test_wf_known_subject : (Instr.queryBadSubject 0 ⟨14, 60, 0, [7], 0⟩).wellFormed = false := by decide
theorem test_wf_good : (Instr.queryBadSubject 0 ⟨14, 60, 0, [8], 0⟩).wellFormed = true := by decide

/-! ## Checks: published values of the two divisions for the bytes 31H to 39H (R58, R106; the values are not the spec's) -/

theorem test_crc16_nine : crc16 [0x31, 0x32, 0x33, 0x34, 0x35, 0x36, 0x37, 0x38, 0x39] = 0x29B1 := by decide +kernel
theorem test_crc8_nine : crc8 0 [0x31, 0x32, 0x33, 0x34, 0x35, 0x36, 0x37, 0x38, 0x39] = 0xF4 := by decide +kernel

/-! ## Columns: the worked sequences 1.11, 1.12, 8.7 and 8.8 -/

/-- 1.11 at 9.5 s: one cycle, E from 547 to 559 and D_e to 141, back to GRANTED. -/
theorem test_drumClosed_cycle :
    let t := after (.drumClosed 0 0) depositing
    t.cc.c0.state = .granted ∧ t.fe.c0.e = 559 ∧ t.cc.c0.depositsE = 141 := by decide

/-- 1.11 at 19.0 s: the pending claim comes before the cycles used up. -/
theorem test_drumClosed_curtailed :
    let s := withCc (fun x => { x with waitingRound := some 4711, pendingEnd := some .curtailedClaim }) depositing
    let t := after (.drumClosed 0 0) s
    t.cc.c0.state = .held ∧ t.cc.c0.drive = .engage ∧ t.cc.c0.roundId = some 4711 ∧ t.au.c0.last.reason = some .curtailedClaim := by
  decide

/-- 1.11 at 4.0 s. -/
theorem test_drumOpen_deposits : (after (.drumOpen 4000000 0) granted).cc.c0.state = .depositing := by decide

/-- R8: an opening in IDLE is forced. -/
theorem test_drumOpen_forced :
    let t := after (.drumOpen 0 0) station
    t.cc.c0.state = .fault ∧ t.isPending .drumForced 0 = true := by decide

/-- R4: a confirmation timer stopped at 2 s by a drum OPEN runs on at the drum CLOSED. -/
theorem test_confirmation_runs_on :
    let s := withCc (fun x => { x with sense := .released, confirm := ⟨2000000, true⟩ }) station
    (after (.drumOpen 0 0) s).cc.c0.confirm = ⟨2000000, false⟩ ∧
    (after (.drumClosed 0 0) (after (.drumOpen 0 0) s)).cc.c0.confirm = ⟨2000000, true⟩ := by decide

/-- R8: the settle failures go with the container's SETTLING when its lock fails. -/
theorem test_confirmation_in_settling :
    let s := withCc (fun x => { x with state := .settling, sense := .released, confirm := .start, settleFailures := 2 }) station
    let t := after (.confirmationTimerExpiry 2000000 0) s
    t.cc.c0.state = .fault ∧ t.cc.c0.settleFailures = 0 ∧ t.level .lockFault 0 = true := by decide

/-- 1.11: the lift from HELD keeps the round and raises no UNCLAIMED_LIFT. -/
theorem test_absent_from_held :
    let t := after (.containerAbsent 140000000 0) held
    t.cc.c0.state = .lifted ∧ t.cc.c0.roundId = some 4711 ∧ t.cc.c0.fillBefore = 547 ∧ t.level .unclaimedLift 0 = false := by
  decide

/-- 8.8: a lift without a claim. -/
theorem test_absent_unclaimed :
    let t := after (.containerAbsent 0 0) station
    t.cc.c0.state = .lifted ∧ t.cc.c0.roundId = some 0 ∧ t.level .unclaimedLift 0 = true := by decide

/-- 1.11 at 95 s: SETTLING, the round becomes the last emptied one, E and D_e are 0, and the EMPTIED record gives 571, 95 s, 140. -/
theorem test_present_returns :
    let t := after (.containerPresent 0 0) lifted
    t.cc.c0.state = .settling ∧ t.cc.c0.lastEmptied = some 4711 ∧ t.cc.c0.roundId = none ∧ t.fe.c0.e = 0 ∧
    t.cc.c0.depositsE = 0 ∧
    t.sc.inFlight = some ⟨.log 0, (LogRecord.mk 0 0 15 0 0 (.emptied 4711 571 95 140)).image⟩ := by decide +kernel

/-- 1.12 at 2.0 s: the grant ends, and FAULT is left at once; the alarm stays pending. -/
theorem test_confirmation_in_granted :
    let t := after (.confirmationTimerExpiry 2000000 0) (withCc (fun x => { x with confirm := .start, sense := .engaged }) granted)
    t.cc.c0.state = .idle ∧ t.level .lockFault 0 = false ∧ t.isPending .lockFault 0 = true ∧ t.au.c0.last.reason = some .window := by
  decide

/-- R6: the sense completes the pair. -/
theorem test_engaged_leaves_fault :
    (after (.lockSenseEngaged 0 0) (withCc (fun x => { x with state := .fault, sense := .released }) station)).cc.c0.state = .idle :=
  by decide
/-- R4: a sense that disagrees with the drum closed starts the confirmation timer. -/
theorem test_released_starts_confirmation : (after (.lockSenseReleased 0 0) station).cc.c0.confirm = .start := by decide
/-- R10. -/
theorem test_drumHeld : (after (.drumHeldExpiry 0 0) depositing).level .drumHeld 0 = true := by decide
/-- 8.8 at 900 s. -/
theorem test_liftLimit :
    let t := after (.liftLimitExpiry 0 0) lifted
    t.cc.c0.state = .missing ∧ t.level .containerMissing 0 = true := by decide
/-- R18. -/
theorem test_hold_lapses :
    let t := after (.holdTimerExpiry 240000000 0) (inState .held)
    t.cc.c0.state = .idle ∧ t.acu.live.claimLapsed = 1 := by decide
/-- R1: outside RUN a level settles and nothing else happens. -/
theorem test_level_settles :
    let t := after (.inputLevelSettled 0 0 (.drum .closed)) (starting .derivation)
    t.cc.c0.drum = .closed ∧ t.cc.c0.drumSettled = true ∧ t.cc.c0.state = .fault := by decide

/-! ## Measurement: the worked cases 2.5 to 2.8 -/

/-- 2.5: T = 8, c10 = 3361, blanking 1487 µs, n_at_start = n_d. -/
theorem test_measurement_begins :
    let s := { station with eu := { station.eu with temperature := 8, cols := station.eu.cols.set 2 { EuCol.cold with settle := .start } } }
    let t := after (.settleTimerExpiry 20000000 2) s
    t.eu.inFlight = some ⟨2, .burst, 8, 3361, 1487, 0⟩ ∧ t.fe.c2.nAtStart = 3 := by decide

/-- 2.5: the echo at 8500 µs after a deposit made during the flight. -/
theorem test_echo_accepted :
    let s := { flight .listen with fe := (flight .listen).fe.set 0 { fill511 with nd := 4, e := 559 } }
    let t := after (.echoRise 0) s
    t.fe.c0.pm = 511 ∧ t.fe.c0.nd = 1 ∧ t.fe.c0.history = [511, 516, 511] ∧ t.fe.c0.e = 523 := by decide

/-- 2.7: the fifth low reading (30, an echo at 13771 µs and 15 °C) is an inferred emptying. -/
theorem test_echo_inferred :
    let s := { station with
      fe := station.fe.set 0 { fill511 with pm := 820, nd := 0, nAtStart := 0, history := [28, 31, 29], suspect := 3, e := 820, cls := .near }
      eu := { station.eu with inFlight := some ⟨0, .listen, 15, 3403, 1469, 13771⟩ } }
    let t := after (.echoRise 0) s
    t.fe.c0.pm = 30 ∧ t.fe.c0.history = [31, 29, 30] ∧ t.fe.c0.cls = .openClass ∧ t.cc.c0.depositsE = 0 ∧
    t.isPending .unseenEmptying 0 = true := by decide +kernel

/-- 2.6: NEAR reads as 1000. -/
theorem test_near : (after (.blankEnd 0 true) (flight .blank)).fe.c0.history = [511, 516, 1000] := by decide
/-- 2.6: the sixth NO_ECHO raises ECHO_FAIL. -/
theorem test_sixth_failure :
    let s := { flight .listen with fe := (flight .listen).fe.set 0 { fill511 with echoFail := 5 } }
    (after (.listenEnd 0) s).level .echoFail 0 = true := by decide
/-- 2.8, cycle 2: E = 904 is FULL, and the cycles used up decide before FULL. -/
theorem test_drum_closed_full :
    let s := { depositing with
      fe := depositing.fe.set 0 { fill511 with pm := 880, nd := 1, e := 892, cls := .near }
      au := depositing.au.set 0 { Au.afterReset with grant := some { grantA with done := 1 } } }
    let t := after (.drumClosed 0 0) s
    t.fe.c0.e = 904 ∧ t.cc.c0.state = .full ∧ t.au.c0.last.reason = some .cycles := by decide
/-- R26: 126 degrees is no good read. -/
theorem test_temperature :
    (after (.temperatureRead 0 (some 8)) station).eu.temperature = 8 ∧
    (after (.temperatureRead 0 (some 126)) station).eu.temperature = 15 := by decide
/-- R28: a burst of 16 cycles at 40 kHz lasts 400 µs. -/
theorem test_burst_end : (after (.burstEnd 0) { flight .burst with eu := { station.eu with inFlight := some ⟨0, .burst, 8, 3361, 1487, 0⟩ } }).eu.inFlight =
      some ⟨0, .blank, 8, 3361, 1487, 400⟩ := by decide +kernel

/-! ## Cards: the worked cases 4.7 to 4.9 -/

/-- Cards A and B in the directory. -/
def carded : State :=
  { granted with cd := ⟨[(8, ⟨dirA, 4⟩), (16, ⟨{ dirA with card := 0x2A700002 }, 0⟩)], []⟩ }

/-- 4.7 at 3.0 s. -/
theorem test_card_busy : (after (.cardRead 3000000 0 0x2A700002 0 false) carded).au.c0.last.code = .busy := by decide
/-- 4.7 at 5.0 s. -/
theorem test_card_in_use : (after (.cardRead 5000000 1 0x2A700001 0 false) carded).au.c1.last.code = .cardInUse := by decide
/-- 4.7 at 0.0 s. -/
theorem test_grant_taken :
    let s := { carded with cc := carded.cc.set 1 idleCc, au := carded.au.set 1 { Au.afterReset with grant := some { grantA with active := false } } }
    let t := after (.grantRequest 0 1) s
    t.cc.c1.state = .granted ∧ t.cc.c1.drive = .release ∧ t.au.c1.last = ⟨.grant, 2, 20, none, none⟩ := by decide
/-- 4.7 at 42.0 s. -/
theorem test_window_expiry :
    let t := after (.windowTimerExpiry 20000000 0) granted
    t.cc.c0.state = .idle ∧ t.au.c0.last.reason = some .window := by decide
/-- 4.9: 4 cycles per grant, a cap of 6 and a usage of 4 give 2 cycles. -/
theorem test_card_capped :
    let img := { image with metered := 4, caps := ⟨6, 0, 0, 0⟩, containers := Quad.all { bin with cycles := 4 } }
    let s := { carded with cl := { carded.cl with image := img }, au := Quad.all Au.afterReset }
    (after (.cardRead 0 1 0x2A700001 0 false) s).au.c1.grant.map Grant.allowed = some 2 := by decide
/-- A neighbour of 4.8. -/
def street (address age : Nat) (marginal : Bool) (rank : Option Nat) (bins : List Summary) : Neighbour :=
  ⟨address, 0, age, 0, 0, marginal, bins, 0, 1, false, rank⟩
/-- Table 4-4: station 12, container 0 is named. -/
theorem test_redirect_4_8 :
    let bin3 := { bin with fraction := 3 }
    let s := { station with
      cl := { station.cl with image := { image with count := 3, containers := ⟨bin3, bin3, { bin with fraction := 5 }, bin⟩ } }
      cc := (station.cc.set 0 { idleCc with state := .full })
      fe := station.fe.set 1 { fill511 with e := 742, cls := .near }
      nu := { Nu.cold with table := [
        street 9 20 false none [⟨3, 0, 0, 12, false⟩],
        street 12 40 false (some 0) [⟨3, 0, 0, 41, false⟩, ⟨3, 1, 2, 93, false⟩, ⟨3, 0, 1, 78, false⟩],
        street 16 200 false (some 3) [⟨3, 0, 0, 8, false⟩, ⟨3, 0, 0, 8, false⟩],
        street 17 95 false (some 2) [⟨1, 0, 0, 0, false⟩, ⟨3, 0, 0, 35, false⟩],
        street 21 30 true (some 1) [⟨3, 0, 0, 20, false⟩]] } }
    redirectTarget s 0 = some ⟨12, 0⟩ := by decide
theorem test_repeat : (after (.repeatIndication 0 0) station).au.c0.sending = some (.plain .outOfService) := by decide
theorem test_send_complete : (after (.indicationSendComplete 0 0) State.reset).au.c0.sending = none := by decide

/-! ## The directory and the revocation list: R53, R54, the worked sequences 5.5 and 5.6 -/

/-- R53: an absent card gets the lowest empty way of its bucket, here that of card 2A700003H. -/
theorem test_dirPut :
    let t := after (.dirPut 0 (frame 60 [0x2A, 0x70, 0, 3, 0, 0, 1, 0, 0xFF, 0, 0])) station
    t.cd.image.map Prod.fst = [24] ∧ (t.lc.queue.map fun g => (g.kind, g.payload)) = [(.dirResult, [0x2A, 0x70, 0, 3, 0])] := by
  decide +kernel
/-- R54: NOT_FOUND. -/
theorem test_dirDrop_absent :
    (after (.dirDrop 0 (frame 60 [0x2A, 0x70, 0, 3])) station).lc.queue.map TxFrame.payload = [[0x2A, 0x70, 0, 3, 3]] := by decide
/-- 5.5 at 0.0 s: the beacon of station 12 with mark 1046 sends a pull from 1041. -/
theorem test_beacon_pulls :
    let s := { station with ru := { Ru.cold with mark := 1040 } }
    let t := after (.beacon 0 (toAll 12 ([12, 1] ++ be32 0 ++ [15] ++ be32 1046 ++ [0, 1, 2, 0, 0, 0, 0]))) s
    t.ru.outstanding = some ⟨12, .start⟩ ∧ (t.lc.queue.map fun g => (g.kind, g.payload)) = [(.revokePull, be32 1041)] := by decide
/-- 5.6 at 0.3 s: the gap is noted. -/
theorem test_gap :
    let s := { station with ru := { Ru.cold with mark := 1048, outstanding := some ⟨9, .start⟩ } }
    let t := after (.revokeGap 0 (frame 9 (be32 1137 ++ be32 1200))) s
    t.level .dirGap 0 = true ∧ t.ru.gapMark = some 1200 ∧ t.ru.outstanding = none := by decide
/-- 5.6 at 95 s: the jump to 1203. -/
theorem test_jump :
    let s := { station with ru := { Ru.cold with mark := 1048, gapMark := some 1200 }, acu := { Acu.cold with levels := 2 } }
    let t := after (.revokePush 0 (toAll 60 ([1, 1] ++ be32 1203 ++ be32 7 ++ [1]))) s
    t.ru.mark = 1203 ∧ t.ru.base = 1202 ∧ t.ru.list = [⟨1203, 7, true⟩] ∧ t.level .dirGap 0 = false ∧ t.ru.gapMark = none := by
  decide +kernel
/-- 5.6: station 7 at 1203 answers a pull from 1201 with REVOKE_GAP carrying 1203 and 1203. -/
theorem test_pull_below_oldest :
    let s := { station with ru := { Ru.cold with mark := 1203, list := [⟨1203, 7, true⟩] } }
    (after (.revokePull 0 (frame 9 (be32 1201))) s).lc.queue.map (fun g => (g.kind, g.payload)) =
      [(.revokeGap, be32 1203 ++ be32 1203)] := by decide
theorem test_outstanding_timeout :
    (after (.pullOutstandingTimeout 0) { station with ru := { Ru.cold with outstanding := some ⟨9, .start⟩ } }).ru.outstanding = none :=
  by decide
theorem test_pull_holdoff :
    (after (.pullHoldoffExpiry 0) { station with ru := { Ru.cold with holdoff := .start } }).ru.holdoff = ⟨10000000, false⟩ := by decide

/-! ## Time and beacons: the worked sequences 7.7 and 7.8 -/

/-- 7.8 at 0 s. -/
theorem test_time :
    let t := after (.timeFrame 0 (toAll 60 (be32 1209590))) { station with tu := ⟨1209588, 2, 1, .start⟩ }
    t.tu = ⟨1209590, 0, 1, .start⟩ := by decide
/-- 7.8 at 10 s: the index becomes 2 and the usage counters are 0. -/
theorem test_clock_rolls :
    let t := after (.clockSecond 0) { carded with tu := ⟨1209599, 1, 1, .start⟩ }
    t.tu.period = 2 ∧ t.cd.image.map (fun p => p.2.usage) = [0, 0] := by decide
/-- 7.7: sequence 3 after 251 at margin 7. -/
theorem test_beacon_missed :
    let n := { street 21 0 true none [] with lastSeq := 251, streak := 3 }
    let s := { station with nu := { Nu.cold with table := [n] } }
    let f := { toAll 21 ([21, 3] ++ be32 0 ++ [15] ++ be32 0 ++ [0, 1, 2, 0, 0, 0, 0]) with margin := 7 }
    let t := after (.beacon 0 f) s
    t.acu.live.beaconsMissed = 7 ∧ t.nu.table.map (fun m => (m.lastSeq, m.streak, m.marginal)) = [(3, 3, true)] := by decide
/-- 7.7: removed at 601 s of age. -/
theorem test_age_tick :
    (after (.neighbourAgeTick 0) { station with nu := { Nu.cold with table := [street 21 600 false none []] } }).nu.table = [] := by
  decide
/-- R137. -/
theorem test_hop_aging : (after (.hopAgingExpiry 0) { station with tu := ⟨0, 1, 0, .start⟩ }).tu.hops = 2 := by decide
/-- 7.6 at 10 s. -/
theorem test_holdoff :
    let t := after (.beaconHoldoffExpiry 0) { station with nu := { Nu.cold with holdoff := .start, early := true } }
    t.nu.early = false ∧ t.lc.queue.map TxFrame.kind = [.beacon] := by decide
theorem test_periodic : (after (.beaconPeriodicTimerExpiry 0) station).lc.queue.map TxFrame.kind = [.beacon] := by decide

/-! ## Rounds: 6.9 and the worked round 8.7 -/

/-- 6.9: station 14's slot time is 880. -/
theorem test_rollcall : (after (.rollcall 0 (toAll 57 [4, 70, 57])) station).lc.window = some ⟨12500, some 880, false⟩ := by decide
/-- 8.7: containers 0 and 1 are named. -/
theorem test_slot :
    let e := fun (n : Nat) => { fill511 with e := n }
    let s := { station with
      cc := (station.cc.set 0 { idleCc with state := .full }).set 1 { idleCc with state := .depositing, drive := .release }
      fe := ⟨e 930, e 742, e 810, e 560⟩
      cl := { station.cl with image := { image with containers := ⟨bin, bin, { bin with fraction := 5 }, bin⟩ } }
      rr := some ⟨4, 70⟩
      lc := { Lc.afterReset with window := some ⟨12500, some 880, false⟩ } }
    (after (.rollcallSlotTime 0) s).lc.lineOut.take 3 = [0x7E, 14, 3] := by decide
/-- 8.7 at 8.0 s: GRANTED, HELD, 93 %. -/
theorem test_claim :
    let s := { station with cc := station.cc.set 0 { idleCc with state := .full }, fe := station.fe.set 0 { fill511 with e := 930 } }
    (after (.claim 0 (frame 57 [0, 0x12, 0x67])) s).lc.queue.head?.map TxFrame.payload = some [0, 0x12, 0x67, 0, 0, 4, 93] := by decide
/-- 8.7 at 190 s: GRANTED, IDLE. -/
theorem test_release :
    let t := after (.release 0 (frame 57 [0, 0x12, 0x67])) held
    t.cc.c0.state = .idle ∧ t.cc.c0.roundId = none := by decide
/-- 6.9: at the close the kept 5 slots resume. -/
theorem test_window_close :
    let x := { lineWith [{ waiting 0 0 with backoff := some 5 }] .suspended with window := some ⟨0, none, false⟩, idle := 15000 }
    let t := after (.rollcallWindowClose 0) { station with lc := x }
    t.lc.phase = .backoff ∧ t.lc.window = none ∧ t.lc.queue.map TxFrame.backoff = [some 5] := by decide

/-! ## The log: 9.5 -/

/-- 9.5: index 8824 takes slot 632, and 7800 leaves the range. -/
theorem test_record :
    let t := after (.windowTimerExpiry 20000000 0) { granted with dl := ⟨7800, 8824⟩ }
    t.dl = ⟨7801, 8825⟩ ∧ t.sc.inFlight.map StoreItem.slot = some (.log 632) := by decide +kernel
/-- 9.5: the reads at 1.0 ms. -/
theorem test_reads :
    let d : Dl := ⟨7803, 8827⟩
    servedIndices d 7790 4 = [7803, 7804, 7805, 7806] ∧ remainingAfter d [7803, 7804, 7805, 7806] = 1020 ∧
    servedIndices d 8823 4 = [8823, 8824, 8825, 8826] ∧ servedIndices d 8825 9 = [8825, 8826] ∧ servedIndices d 8827 2 = [] := by
  decide
theorem test_write_complete :
    let t := after (.storeWriteComplete 0) busy
    t.acu.live.storeWrites = 1 ∧ t.sc.inFlight.map StoreItem.slot = some (.rev 1) := by decide

/-- R65: an item that CD holds is written at once when nothing else waits. -/
theorem test_held_slot :
    let s := { station with
      cd := ⟨[], [5]⟩
      sc := { Sc.cold with inFlight := some ⟨.dir 0, emptyDirImage⟩ } }
    let t := after (.storeWriteComplete 0) s
    t.sc.inFlight = some ⟨.dir 5, emptyDirImage⟩ ∧ t.sc.queue = [] ∧ t.cd.held = [] := by decide +kernel
/-- R193: defined and undefined codes of a GRANT_END, a REFUSAL and a kind. -/
theorem test_log_codes :
    let slot := fun (kind cause reason : Byte) => fill 9 ++ [kind] ++ fill 3 ++ [cause] ++ fill 4 ++ [reason] ++ fill 5
    logCodesDefined (slot 0x00 99 5) = true ∧ logCodesDefined (slot 0x00 0 6) = false ∧
    logCodesDefined (slot 0x1F 14 99) = true ∧ logCodesDefined (slot 0x10 15 0) = false ∧
    logCodesDefined (slot 0x30 99 99) = true ∧ logCodesDefined (slot 0x40 0 0) = false := by decide

/-! ## Alarms and requests: 10.5, R171, R172, R181 -/

/-- 10.5 at 0 s. -/
theorem test_alarm :
    let t := raise .lockFault 0 { station with tu := ⟨5000000, 0, 0, .start⟩ }
    t.isPending .lockFault 0 = true ∧ t.acu.latch = some 5000000 ∧ t.lc.queue.map TxFrame.kind = [.alarm] := by decide
/-- 10.5 at 9 s: the query empties the set. -/
theorem test_queryAlarms :
    let t := after (.queryAlarms 0 (frame 60 [])) busy
    t.acu.pending = 0 ∧ t.acu.latch = none := by decide
theorem test_queryCounters :
    (after (.queryCounters 0 (frame 60 [])) station).lc.queue.map (fun g => (g.kind, g.payload.take 2)) = [(.queryReply, [2, 0])] := by
  decide
theorem test_queryContainers :
    (after (.queryContainers 0 (frame 60 [])) station).lc.queue.map (fun g => g.payload.length) = [3 + 4 * 16] := by decide
theorem test_queryNeighbours :
    (after (.queryNeighbours 0 (frame 60 [0])) station).lc.queue.map TxFrame.payload = [[4, 0, 0, 0]] := by decide
theorem test_queryStatus : (after (.queryStatus 0 (frame 60 [1])) station).lc.queue.map TxFrame.payload = [[5, 6]] := by decide
theorem test_queryDirGet :
    (after (.queryDirGet 0 (frame 60 [0x2A, 0x70, 0, 9])) station).lc.queue.map TxFrame.payload = [[6, 3, 0x2A, 0x70, 0, 9]] := by
  decide
theorem test_queryLog :
    (after (.queryLog 0 (frame 60 [0, 0, 0, 0, 4])) station).lc.queue.map TxFrame.payload =
      [[7, 0, 0, 0, 0, 0, 0, 0, 0, 0, 0, 0, 0, 0, 0, 0]] := by decide
theorem test_queryBadSubject : (after (.queryBadSubject 0 (frame 60 [9])) station).lc.queue.map TxFrame.payload = [[9, 5]] := by decide
theorem test_snapshot :
    let t := after (.snapshot 0 (frame 60 [])) station
    t.acu.copies.framesRxOk = 1 ∧ t.acu.live = .zero := by decide
/-- R172: in MANUAL the report timer makes nothing. -/
theorem test_report_timer :
    let s := { station with acu := { Acu.cold with live := { Counters.zero with grants := 4 }, report := .start } }
    (after (.reportTimerExpiry 0) s).acu.copies.grants = 0 ∧
    (after (.reportTimerExpiry 0) { s with cl := { s.cl with image := { image with auto := true } } }).acu.copies.grants = 4 := by
  decide
/-- R181: the restart waits for its reply. -/
theorem test_restart :
    let t := after (.restart 0 (frame 60 [])) station
    t.restartPromised = true ∧ t.inRun = true := by decide
/-- R181: the reply leaves, and the station starts warm. -/
theorem test_restart_departs :
    let s := { station with restartPromised := true, lc := lineWith [{ waiting 0 0 with departure := true }] .sending }
    let t := after (.transmissionComplete 0) s
    t.inRun = false ∧ t.cl.startKind = .warm ∧ t.restartPromised = false := by decide

/-- R28: 16 cycles of 40 kHz are high and low for 12.5 µs each, and end at 400 µs. -/
theorem test_burst_wave :
    [0, 12, 13, 24, 25, 387, 388, 400].map (burstHigh bin) = [true, true, false, false, true, true, false, false] := by decide

/-! ## The line: 6.8, 6.10 and the checks -/

/-- R109: a CLAIM from a gateway is answered REPLY with NOT_PERMITTED. -/
theorem test_not_permitted :
    (after (.frameNotDispatched 0 (bytesOf 14 60 10 [])) station).lc.queue.map (fun g => (g.kind, g.payload)) = [(.reply, [10, 4])] := by
  decide +kernel
/-- R107: a frame with a wrong CRC. -/
theorem test_bad_crc :
    (after (.frameNotDispatched 0 ⟨[14, 60, 10, 1, 0, 0, 0], false, 1⟩) station).acu.live.framesRxBad = 1 := by decide +kernel
/-- 6.8 at 48: activity takes the frame back to GAP with its kept slot. -/
theorem test_activity :
    let t := after (.lineActivity 0 .begins) { station with lc := lineWith [{ waiting 0 0 with backoff := some 1 }] .backoff }
    t.lc.phase = .gap ∧ t.lc.queue.map TxFrame.backoff = [some 1] := by decide
/-- 6.8 at 602: BACKOFF resumes with 1 slot. -/
theorem test_class_gap :
    (after (.classGapReached 0) { station with lc := lineWith [{ waiting 0 0 with backoff := some 1 }] .gap }).lc.phase = .backoff := by
  decide
/-- 6.8 at 634: the slot ends and the transmission begins. -/
theorem test_slot_end :
    (after (.backoffSlotEnd 0) { station with lc := lineWith [{ waiting 0 0 with backoff := some 1 }] .backoff }).lc.phase = .sending := by
  decide +kernel
/-- R119: the eighth attempt abandons the frame. -/
theorem test_collision :
    let t := after (.collision 0) { station with lc := lineWith [{ waiting 0 2 with attempts := 7 }] .sending }
    t.lc.queue = [] ∧ t.acu.live.collisions = 1 ∧ t.acu.live.txAbandoned = 1 := by decide
/-- 6.8 at 1134. -/
theorem test_transmission_complete :
    let t := after (.transmissionComplete 0) { station with lc := lineWith [waiting 0 0, waiting 1 2] .sending }
    t.lc.phase = .gap ∧ t.lc.access = some 1 ∧ t.acu.live.framesTx = 1 := by decide
/-- R120. -/
theorem test_reply_late :
    let t := after (.replyDeadlineExpiry 0 0) { station with lc := lineWith [{ waiting 0 0 with deadline := some 6000000 }] .gap }
    t.lc.queue = [] ∧ t.acu.live.repliesLate = 1 := by decide
/-- 6.10: the offered DIR_RESULT displaces the oldest class-2 frame and the head takes access. -/
theorem test_displaced :
    let q := [waiting 3 0, waiting 4 0, waiting 6 0, waiting 7 0, waiting 5 1, waiting 8 1, waiting 1 2, waiting 2 2]
    let x := { lineWith q .backoff with access := some 1, arrivals := 9 }
    let t := offer (replyFrame .dirResult (frame 61 []) [] false) { station with lc := x }
    t.lc.queue.map TxFrame.arrival = [3, 4, 6, 7, 9, 5, 8, 2] ∧ t.lc.access = some 3 ∧ t.lc.phase = .gap ∧
    t.acu.live.txAbandoned = 1 := by decide
/-- R113. -/
theorem test_silence : (after (.silenceTimerExpiry 30000000) station).level .lineSilent 0 = true := by decide

/-! ## Power, RESET_N and the start: R183, R186, 11.7 and 11.8 -/

theorem test_power_on : (after (.powerOn 0) off).cl.phase = .starting ∧ (after (.powerOn 0) off).cl.powered = true := by decide
theorem test_loss_of_power : (after (.lossOfPower 0) station).cl.powered = false := by decide
/-- 11.8: the reset drops the grant and keeps D_e. -/
theorem test_reset_low :
    let t := after (.resetNLow 0) granted
    t.au.c0.grant = none ∧ t.cc.c0.depositsE = 140 ∧ t.cl.phase = .starting := by decide
theorem test_reset_high : (after (.resetNHigh 0) lowReset).cl.resetLow = false := by decide
/-- R186. -/
theorem test_bad_image : (after (.configurationImageRead 0 []) State.reset).cl.phase = .safe := by decide
/-- 11.7: container 1 after CL, and what FE derives. -/
theorem test_clamp_11_7 :
    let x := ({ bin with h := 3900, vd := 255, tNear := 890, burst := 40 } : ContainerConfig).clamped
    x.h = 3750 ∧ x.vd = 250 ∧ x.burst = 32 ∧ x.tNear = 890 ∧ x.derivedH = 2150 ∧ x.derivedNear = 850 ∧ x.derivedInc = 50 := by decide
/-- R187: the store work is followed by the derivation. -/
theorem test_store_work : (after (.startingStoreWork 0) (starting .storeWork)).cl.stage = .derivation := by decide +kernel
/-- R24: the return timer and the periodic timer ask for a measurement, which a free EU begins. -/
theorem test_return_and_periodic :
    let s := { station with eu := { station.eu with cols := Quad.all ⟨false, .start, .start, .start, false⟩ } }
    (after (.returnTimerExpiry 0 3) s).eu.pointer = 3 ∧ (after (.euPeriodicTimerExpiry 0 1) s).eu.pointer = 1 := by decide
/-- 11.8: a HELD container comes back IDLE without a round, a drum still open in FAULT. -/
theorem test_derivation :
    let s := { starting .derivation with
      cc := (Quad.all { idleCc with roundId := some 4711 }).set 2 { idleCc with drum := .opened } }
    let t := after (.containerStateDerivation 0) s
    t.cc.c0.state = .idle ∧ t.cc.c0.roundId = none ∧ t.cc.c2.state = .fault ∧ t.cl.phase = .run ∧ t.au.c0.last.code = .ready := by
  decide

end Sys2Proof.Tests
end

section
/-! SUPPORT. The proofs of the statements on fill measurement and estimation (chapter 2) and on the start that it needs. -/

namespace Sys2Proof.FillProofs

open Sys2Proof.Machine Sys2Proof.Safety

/-! ## The candidate and the class (R36, R42) -/

/-- Sorting three readings compares the first two, then puts the third in its place. -/
theorem mergeSort_three (a b c : Nat) :
    [a, b, c].mergeSort (fun x y => decide (x ≤ y)) =
      if a ≤ b then (if a ≤ c then a :: (if b ≤ c then [b, c] else [c, b]) else [c, a, b])
      else (if b ≤ c then b :: (if a ≤ c then [a, c] else [c, a]) else [c, b, a]) := by
  by_cases hab : a ≤ b <;>
    simp [List.mergeSort, List.MergeSort.Internal.splitInTwo, List.merge, hab]

/-- The median stands in the middle of the three sorted readings. -/
theorem sorted_middle (a b c : Nat) :
    ([a, b, c].mergeSort (fun x y => decide (x ≤ y)))[1]? = some (median3 a b c) := by
  rw [mergeSort_three, median3]
  split_ifs <;> simp <;> omega

/-- Settles O39: the candidate of three readings is the middle one of the sorted three. -/
theorem candidateIsTheMedian : Obligations.CandidateIsTheMedian :=
  ⟨fun a b c => (sorted_middle a b c).symm, fun a b => max_def a b, fun _ => rfl, rfl⟩

/-- Settles O40: in each row the bounds of the row decide every comparison that the class before makes. -/
theorem classMovesThroughTheBands : Obligations.ClassMovesThroughTheBands := by
  intro before e near full hgap
  refine ⟨fun hfull => ?_, fun hnear hfull hb => ?_, fun hnear hfull hb => ?_, fun hlow hnear => ?_, fun hlow => ?_⟩
  · have h30 : full ≤ e + 30 := by omega
    cases before <;> simp [nextClass, hfull, h30]
  · have h30 : ¬ e + 30 < near := by omega
    cases before with
    | full => exact absurd rfl hb
    | openClass | near => simp [nextClass, hnear, h30, Nat.not_le.2 hfull]
  · have h30 : ¬ e + 30 < near := by omega
    subst hb
    simp [nextClass, h30]
  · have hfull : ¬ full ≤ e ∧ ¬ full ≤ e + 30 := by omega
    cases before <;> simp [nextClass, hfull, Nat.not_le.2 hnear, Nat.not_lt.2 hlow]
  · have hfull : ¬ full ≤ e ∧ ¬ full ≤ e + 30 ∧ ¬ near ≤ e := by omega
    cases before <;> simp [nextClass, hfull, hlow]

/-! ## The phases of a measurement (R26, R28, R29) -/

/-- Outside its phase a measurement is not found there. -/
theorem inPhase_eq_none {s : State} {m : Measurement} {p : MeasPhase} (hm : s.eu.inFlight = some m) (hp : m.phase ≠ p) :
    s.inPhase p = none := by
  simp [State.inPhase, hm, hp]

/-- In RUN a measurement is found in its phase. -/
theorem inPhase_eq_some {s : State} {m : Measurement} {p : MeasPhase} (hr : s.inRun = true) (hm : s.eu.inFlight = some m)
    (hp : m.phase = p) : s.inPhase p = some m := by
  simp [State.inPhase, hr, hm, hp]

/-- The carrier frequencies as a table (R28). -/
theorem carrierKhz_eq_getD (k : Nat) : carrierKhz k = [40, 48, 58, 70].getD k 70 := by
  rcases k with _ | _ | _ | _ | k <;> rfl

/-- Half periods counted against whole ones: the drive is high while a cycle is left and its first half lasts (log entry 60). -/
theorem burstHigh_eq (k : ContainerConfig) (us : Nat) :
    burstHigh k us = decide (us * carrierKhz k.carrier / 1000 < k.burst ∧ us * carrierKhz k.carrier % 1000 < 500) := by
  have hmul : us * (2 * carrierKhz k.carrier) = 2 * (us * carrierKhz k.carrier) := by ring
  simp only [burstHigh, hmul, ← Bool.decide_and, decide_eq_decide]
  generalize us * carrierKhz k.carrier = n
  omega

/-- The drive of a transducer while a measurement is in flight in RUN. -/
theorem transducerHigh_eq {s : State} {m : Measurement} (hr : s.inRun = true) (hm : s.eu.inFlight = some m) (c : Col) :
    s.transducerHigh c = decide (m.phase = .burst ∧ m.cont = c ∧
      m.elapsed * carrierKhz (s.ccfg c).carrier / 1000 < (s.ccfg c).burst ∧
      m.elapsed * carrierKhz (s.ccfg c).carrier % 1000 < 500) := by
  by_cases hp : m.phase = .burst
  · simp [State.transducerHigh, inPhase_eq_some hr hm hp, burstHigh_eq, hp]
  · simp [State.transducerHigh, inPhase_eq_none hm hp, hp]

/-- Settles O37: each phase command finds the measurement in its phase, or finds none and leaves the state. -/
theorem measurementsPassTheirPhases : Obligations.MeasurementsPassTheirPhases := by
  refine ⟨fun s d hr => ?_, fun s d value hp => ?_⟩
  · intro u m hm
    have hru : u.inRun = true := by simp [u, hr]
    refine ⟨fun h => ?_, fun h => ?_, fun c => ?_, fun h => ?_, fun h above => ?_, fun h => ⟨?_, ?_⟩⟩
    · simp [exec, execBurstEnd, inPhase_eq_some hru hm h, u, burstMicros, carrierKhz_eq_getD, State.setEu]
    · simp [exec, execBlankEnd, inPhase_eq_some hru hm h, u, State.setEu]
    · simpa only [carrierKhz_eq_getD] using transducerHigh_eq hru hm c
    · simp [exec, execBurstEnd, inPhase_eq_none hm h, u]
    · simp [exec, execBlankEnd, inPhase_eq_none hm h, u]
    · simp [exec, execEchoRise, inPhase_eq_none hm h, u]
    · simp [exec, execListenEnd, inPhase_eq_none hm h, u]
  · intro u
    have hpu : u.cl.powered = true := by simp [u, hp]
    refine ⟨fun v hv hlo hhi => ?_, fun v hv hout => ?_, fun hv => ?_⟩
    · obtain rfl := Option.mem_def.1 hv
      simp [exec, execTemperatureRead, goodDegrees, hp, hlo, hhi, u, State.setEu]
    · obtain rfl := Option.mem_def.1 hv
      have hbad : goodDegrees v = false := by simp [goodDegrees]; omega
      simp [exec, execTemperatureRead, hbad, u]
    · subst hv
      rfl

/-! ## The arbiter (R25, R27) -/

/-- The container the arbiter serves next, as its index: the first request in the cyclic order after the pointer (R25). -/
theorem arbiter_find (s : State) :
    ((arbiterOrder s.eu.pointer s.cfg.count).find? fun c => (s.eu.cols.get c).request) =
      (((List.range s.cfg.count).map fun k => (s.eu.pointer + 1 + k) % s.cfg.count).find? fun i =>
        (s.eu.cols.get (Fin.ofNat 4 i)).request).map (Fin.ofNat 4) := by
  simp [arbiterOrder, List.find?_map, Function.comp_def]

/-- Every container in the arbiter's order is one of the station's. -/
theorem lt_count_of_mem_arbiterOrder {pointer count : Nat} {c : Col} (h : c ∈ arbiterOrder pointer count) :
    c.val < count := by
  obtain ⟨k, hk, rfl⟩ := List.mem_map.1 h
  have hlt : (pointer + 1 + k) % count < count := Nat.mod_lt _ (by have := List.mem_range.1 hk; omega)
  exact (Nat.mod_le _ 4).trans_lt hlt

/-- A free EU in RUN serves one requesting container of the station; else nothing changes (R25). -/
theorem serve_cases (s : State) :
    serve s = s ∨ ∃ c : Col, s.inRun = true ∧ s.eu.inFlight = none ∧ c.val < s.cfg.count ∧
      (s.eu.cols.get c).request = true ∧ serve s = beginMeasurement c s := by
  unfold serve
  split
  · rename_i hfree
    split
    · rename_i c hc
      exact .inr ⟨c, hfree.1, hfree.2, lt_count_of_mem_arbiterOrder (List.mem_of_find?_eq_some hc),
        by simpa using List.find?_some hc, rfl⟩
    · exact .inl rfl
  · exact .inl rfl

/-- In RUN a busy EU serves nothing, and a free one serves the next request, the measurement written out (R27). -/
theorem serve_eq {s : State} (hr : s.inRun = true) :
    serve s =
      if s.eu.inFlight.isSome then s
      else match ((List.range s.cfg.count).map fun k => (s.eu.pointer + 1 + k) % s.cfg.count).find? fun i =>
          (s.eu.cols.get (Fin.ofNat 4 i)).request with
        | none => s
        | some i => beginMeasurement (Fin.ofNat 4 i) s := by
  unfold serve
  rw [arbiter_find]
  cases hf : s.eu.inFlight with
  | some m => simp
  | none =>
    simp only [hr, true_and, Option.isSome_none, if_true, Bool.false_eq_true, if_false]
    generalize List.find? _ _ = found
    cases found <;> rfl

/-! ## The request timers (R23, R24) -/

/-- A cause sets the flag of a container in use exactly while it reads PRESENT (R23). -/
theorem setRequest_eq {s : State} {c : Col} (hs : s.serves c = true) :
    setRequest c s = { s with eu := { s.eu with cols := s.eu.cols.set c { s.eu.cols.get c with
      request := if (s.cc.get c).present = .present then true else (s.eu.cols.get c).request } } } := by
  by_cases hp : (s.cc.get c).present = .present
  · simp [setRequest, hs, hp, State.setEuCol]
  · have hkeep : s = s.setEuCol c (s.eu.cols.get c) := by simp [State.setEuCol]
    rw [setRequest, if_neg (fun h => hp h.2), if_neg hp]
    exact hkeep

/-- Settles O36: each expiry is a cause for a request on the state with the timer stopped or restarted. -/
theorem requestTimersAskForMeasurements : Obligations.RequestTimersAskForMeasurements := by
  intro s d c hs u e present asked served
  have hru : u.inRun = true := by
    simp only [State.serves, Bool.and_eq_true] at hs
    simp [u, hs.1]
  have hsu : u.serves c = true := by simp [u, hs]
  have hserved (v : State) (hv : v.inRun = true) : serve v = served v := serve_eq hv
  have hasked (y : EuCol) : requestMeasurement c (u.setEuCol c y) = served (asked y) := by
    rw [requestMeasurement, setRequest_eq (by simpa using hsu), hserved _ (by exact hru)]
    simp [asked, present, State.setEuCol]
  have hperiodic : exec (.euPeriodicTimerExpiry d c) s =
      .next (if u.serves c && e.periodic.running then periodicExpires c u else u) := rfl
  have hsettle : exec (.settleTimerExpiry d c) s =
      .next (if u.serves c && e.settle.running then requestMeasurement c (u.setEuCol c { e with settle := .zero }) else u) := rfl
  have hret : exec (.returnTimerExpiry d c) s =
      .next (if u.serves c && e.ret.running then requestMeasurement c (u.setEuCol c { e with ret := .zero }) else u) := rfl
  refine ⟨fun h => ?_, fun h => ?_, fun h => ?_, fun h => ?_, fun h => ?_, fun h => ?_⟩
  · have hexpires : periodicExpires c u = served (asked { e with periodic := .start }) := hasked _
    rw [hperiodic, hsu, h, hexpires]
    by_cases hp : present
    · simp [hp, Timer.start]
    · simp [hp, asked, Timer.start]
  · simp [hsettle, hsu, h, hasked, Timer.zero]
  · simp [hret, hsu, h, hasked, Timer.zero]
  · simp [hperiodic, h]
  · simp [hsettle, h]
  · simp [hret, h]

/-! ## The configuration image (R184, R185) -/

/-- STARTING is not RUN. -/
theorem inRun_of_atStage {s : State} {st : StartStage} (h : s.atStage st = true) : s.inRun = false := by
  simp only [State.atStage, Bool.and_eq_true, decide_eq_true_eq] at h
  simp [State.inRun, h.1.2]

/-- Time does not pass for the part in STARTING. -/
theorem advance_of_atStage {s : State} {st : StartStage} (h : s.atStage st = true) (d : Nat) : s.advance d = s :=
  advance_of_not_inRun s d (inRun_of_atStage h)

/-- The read of an image takes a good one and enters SAFE on a bad one (R184). -/
theorem exec_configurationImageRead {s : State} (d : Nat) (b : List Byte) (hs : s.atStage .image = true)
    (hf : s.sc.inFlight = none) :
    exec (.configurationImageRead d b) s =
      .next (if imageGood b then takeImage b (s.advance d) else enterSafe (s.advance d)) := by
  simp [exec, execConfigurationImageRead, advance_of_atStage hs, hs, hf]

theorem imageGood_iff (b : List Byte) :
    imageGood b = true ↔ 192 ≤ b.length ∧ (crc16 (b.take 190)).toNat = fieldAt b 190 2 := by
  simp [imageGood]

/-- A value is outside a range (R185). -/
def Outside (lo hi n : Nat) : Prop := n < lo ∨ hi < n

/-- A clamp moves exactly the values outside its range. -/
theorem clampTo_ne_iff {lo hi : Nat} (h : lo ≤ hi) (n : Nat) : clampTo lo hi n ≠ n ↔ Outside lo hi n := by
  simp only [clampTo, Outside]
  omega

/-- A default within the range is not clamped. -/
theorem clampTo_orDefault {lo hi d : Nat} (hlo : lo ≤ d) (hhi : d ≤ hi) (n : Nat) :
    clampTo lo hi (orDefault d n) = if n = 0 then d else max lo (min hi n) := by
  simp only [clampTo, orDefault]
  split <;> omega

/-- A clamp of a field with a default moves exactly the stored values other than 0 that are outside the range. -/
theorem clampTo_orDefault_ne_iff {lo hi d : Nat} (hlo : lo ≤ d) (hhi : d ≤ hi) (n : Nat) :
    clampTo lo hi (orDefault d n) ≠ orDefault d n ↔ n ≠ 0 ∧ Outside lo hi n := by
  simp only [clampTo, orDefault, Outside]
  split <;> omega

/-- Distinct flags in distinct bits: the sum of the first flags holds each flag at its own bit and nothing above. -/
theorem testBit_foldl_flagAt (f : Nat → Bool) (n i : Nat) :
    ((List.range n).foldl (fun a j => a + flagAt j (f j)) 0).testBit i = (decide (i < n) && f i) := by
  induction n generalizing i with
  | zero => simp
  | succ n ih =>
    have hlt : (List.range n).foldl (fun a j => a + flagAt j (f j)) 0 < 2 ^ n := by
      refine Nat.lt_pow_two_of_testBit _ fun j hj => ?_
      simp [ih, Nat.not_lt.2 hj]
    rw [List.range_succ, List.foldl_append, List.foldl_cons, List.foldl_nil]
    generalize List.foldl _ _ _ = a at ih hlt ⊢
    by_cases hf : f n = true
    · rw [flagAt, if_pos hf, Nat.add_comm]
      rcases Nat.lt_trichotomy i n with h | rfl | h
      · rw [Nat.testBit_two_pow_add_gt h, ih]
        simp [h, Nat.lt_succ_of_lt h]
      · rw [Nat.testBit_two_pow_add_eq, ih]
        simp [hf]
      · have hup : 2 ^ n + a < 2 ^ i :=
          calc 2 ^ n + a < 2 ^ (n + 1) := by omega
            _ ≤ 2 ^ i := Nat.pow_le_pow_right (by decide) h
        rw [Nat.testBit_lt_two_pow hup]
        simp [show ¬ i < n + 1 by omega]
    · rw [flagAt, if_neg hf, Nat.add_zero, ih]
      rcases Nat.lt_trichotomy i n with h | rfl | h
      · simp [h, Nat.lt_succ_of_lt h]
      · simp [hf]
      · simp [show ¬ i < n + 1 by omega, Nat.lt_asymm h]

/-- The bit of a condition name in a flag field (12.4). -/
theorem getLsbD_conditionFlags (b : List Byte) (k i : Nat) (hi : i < 14) :
    (conditionFlags b k).getLsbD i = (byteAt b (38 + i)).getLsbD k := by
  rw [conditionFlags, BitVec.getLsbD_ofNat, testBit_foldl_flagAt]
  simp [hi]

/-- A preference position is clamped exactly when it is used and its rank is out of range (R185, log entry 58). -/
theorem preference_clamped_ne_iff (p : Preference) : p.clamped ≠ p ↔ p.address ≠ 0 ∧ Outside 0 7 p.rank := by
  rw [← clampTo_ne_iff (Nat.zero_le 7)]
  obtain ⟨a, r⟩ := p
  by_cases h : a = 0 <;> simp [Preference.clamped, h]

/-- A list is changed by a map exactly when one of its members is. -/
theorem map_ne_self_iff {α : Type} (f : α → α) (l : List α) : l.map f ≠ l ↔ ∃ x ∈ l, f x ≠ x := by
  have hid : l.map f = l ↔ ∀ x ∈ l, f x = x := by simpa using List.map_inj_left (l := l) (f := f) (g := id)
  simp [hid]

/-- A field of the container is outside its range (R185). -/
def ContainerOutside (x : ContainerConfig) : Prop :=
  Outside 0 7 x.fraction ∨ Outside 300 4000 x.dFloor ∨ Outside 200 3750 x.h ∨ Outside 500 8000 x.v ∨ Outside 10 250 x.vd ∨
  Outside 100 1000 x.tNear ∨ Outside 100 1000 x.tFull ∨ Outside 1 4 x.cycles ∨ Outside 0 3 x.carrier ∨ Outside 8 32 x.burst

/-- A container's fields are clamped exactly when one of them is outside its range (R185). -/
theorem container_clamped_ne_iff (x : ContainerConfig) : x.clamped ≠ x ↔ ContainerOutside x := by
  obtain ⟨fraction, dFloor, h, v, vd, tNear, tFull, cycles, carrier, burst⟩ := x
  simp only [ContainerConfig.clamped, ContainerOutside, ne_eq, ContainerConfig.mk.injEq, not_and_or]
  simp only [← ne_eq, clampTo_ne_iff, Nat.reduceLeDiff]

/-- The image's fields are clamped exactly when one of them is (R185). -/
theorem image_clamped_ne_iff (x : ConfigImage) :
    x.clamped ≠ x ↔
      clampTo 0 55 x.ownAddress ≠ x.ownAddress ∨ clampTo 1 4 x.count ≠ x.count ∨
      clampTo 0 4095 x.districtPrefix ≠ x.districtPrefix ∨ clampTo 60 3600 x.measInterval ≠ x.measInterval ∨
      clampTo 5 60 x.grantWindow ≠ x.grantWindow ∨ clampTo 60 900 x.holdTime ≠ x.holdTime ∨
      clampTo 300 3600 x.liftLimit ≠ x.liftLimit ∨ clampTo 30 600 x.beaconInterval ≠ x.beaconInterval ∨
      clampTo 1 31 x.periodDays ≠ x.periodDays ∨ clampTo 1 24 x.reportPeriod ≠ x.reportPeriod ∨
      (∃ p ∈ x.prefs, p.clamped ≠ p) ∨
      (∃ c : Col, c.val < clampTo 1 4 x.count ∧ (x.containers.get c).clamped ≠ x.containers.get c) := by
  have hquad (f : Col → ContainerConfig) : Quad.ofFn f ≠ x.containers ↔ ∃ c, f c ≠ x.containers.get c := by
    rw [← not_iff_not, not_not, not_exists]
    simp only [not_not]
    exact ⟨fun h c => by rw [← h, Quad.get_ofFn], fun h => Quad.ext_get fun c => by rw [Quad.get_ofFn, h]⟩
  rw [← map_ne_self_iff]
  obtain ⟨ownAddress, count, districtPrefix, measInterval, grantWindow, holdTime, liftLimit, beaconInterval, periodDays,
    auto, reportPeriod, openRedirect, metered, caps, prefs, masked, both, containers⟩ := x
  simp only [ConfigImage.clamped, ne_eq, ConfigImage.mk.injEq, not_and_or, not_true_eq_false, false_or] at hquad ⊢
  simp only [hquad, ite_eq_right_iff, Classical.not_imp]

/-- The containers of the image in force (R185). -/
theorem imageInForce_container (b : List Byte) (c : Col) (h : c.val < countInForce b) :
    (imageInForce b).containers.get c = (storedContainer b c).clamped := by
  have hcount : c.val < clampTo 1 4 (storedImage b).count := h
  simp only [imageInForce, ConfigImage.clamped, Quad.get_ofFn, if_pos hcount]
  simp only [storedImage, Quad.get_ofFn, if_pos h]

/-- Of a clamped container FE's increment needs no clamp: it lies between 2 and 500 (R31). -/
theorem derivedInc_eq_rawInc (x : ContainerConfig) : x.clamped.derivedInc = x.clamped.rawInc := by
  have hvd : 10 ≤ x.clamped.vd ∧ x.clamped.vd ≤ 250 := by simp only [ContainerConfig.clamped, clampTo]; omega
  have hv : 500 ≤ x.clamped.v := by simp only [ContainerConfig.clamped, clampTo]; omega
  have hlow : 1 ≤ x.clamped.rawInc := (Nat.one_le_div_iff (by omega)).2 (by omega)
  have hhigh : x.clamped.rawInc < 501 := Nat.div_lt_of_lt_mul (by omega)
  simp only [ContainerConfig.derivedInc, clampTo]
  omega

/-- FE clamps a container of the image in force exactly when its H or its T_near differs from the image's (R31). -/
theorem feClamps_iff (x : ContainerConfig) :
    x.clamped.feClamps = true ↔ x.clamped.derivedH ≠ x.clamped.h ∨ x.clamped.derivedNear ≠ x.clamped.tNear := by
  simp [ContainerConfig.feClamps, derivedInc_eq_rawInc]

/-- A preference position in force (R185, log entry 58). -/
theorem imageInForce_prefs (b : List Byte) :
    (imageInForce b).prefs = (List.range 8).map fun i =>
      (⟨fieldAt b (22 + 2 * i) 1, fieldAt b (23 + 2 * i) 1⟩ : Preference).clamped := by
  simp [imageInForce, ConfigImage.clamped, storedImage]

/-- FE's record of a container under a new image: the derived quantities, E and the class (R31, R46). -/
theorem takeImage_fe (b : List Byte) (s : State) (c : Col) (h : c.val < countInForce b) :
    (takeImage b s).fe.get c = (s.fe.get c).underImage (storedContainer b c).clamped := by
  have hc : c.val < (imageInForce b).count := h
  simp [takeImage, hc, imageInForce_container b c h]

/-- A field of the image before the snapshot mode is outside its range, a default standing for a stored 0 (R185, 12.4). -/
def OutsideBeforeMode (b : List Byte) : Prop :=
  Outside 0 55 (fieldAt b 0 1) ∨ Outside 1 4 (fieldAt b 1 1) ∨ Outside 0 4095 (fieldAt b 2 2) ∨
  (fieldAt b 4 2 ≠ 0 ∧ Outside 60 3600 (fieldAt b 4 2)) ∨ (fieldAt b 6 1 ≠ 0 ∧ Outside 5 60 (fieldAt b 6 1)) ∨
  (fieldAt b 7 2 ≠ 0 ∧ Outside 60 900 (fieldAt b 7 2)) ∨ (fieldAt b 9 2 ≠ 0 ∧ Outside 300 3600 (fieldAt b 9 2)) ∨
  (fieldAt b 11 2 ≠ 0 ∧ Outside 30 600 (fieldAt b 11 2)) ∨ Outside 1 31 (fieldAt b 13 1)

/-- The report period, or the rank of a used preference position, is outside its range (R185, 12.4). -/
def OutsideAfterMode (b : List Byte) : Prop :=
  Outside 1 24 (fieldAt b 15 1) ∨
  (∃ i ∈ List.range 8, fieldAt b (22 + 2 * i) 1 ≠ 0 ∧ Outside 0 7 (fieldAt b (23 + 2 * i) 1))

/-- CL's clamps change the stored image exactly when a field of it is outside its range (R185). -/
theorem imageInForce_ne_iff (b : List Byte) :
    imageInForce b ≠ storedImage b ↔
      OutsideBeforeMode b ∨ OutsideAfterMode b ∨
      ∃ c : Col, c.val < countInForce b ∧ ContainerOutside (storedContainer b c) := by
  have hcols : (∃ c : Col, c.val < clampTo 1 4 (storedImage b).count ∧
      ((storedImage b).containers.get c).clamped ≠ (storedImage b).containers.get c) ↔
      ∃ c : Col, c.val < countInForce b ∧ ContainerOutside (storedContainer b c) := by
    refine exists_congr fun c => and_congr_right fun (hc : c.val < countInForce b) => ?_
    simp only [container_clamped_ne_iff, storedImage, Quad.get_ofFn, if_pos hc]
  rw [imageInForce, image_clamped_ne_iff, hcols]
  simp only [storedImage, List.mem_map, exists_exists_and_eq_and, preference_clamped_ne_iff, clampTo_orDefault_ne_iff,
    Nat.reduceLeDiff]
  simp only [clampTo_ne_iff, Nat.reduceLeDiff, OutsideBeforeMode, OutsideAfterMode, or_assoc]

/-- FE clamps a container in use exactly when its derived H or T_near differs from the image's (R31). -/
theorem takeImage_feClamps_iff (b : List Byte) (s : State) (c : Col) (h : c.val < countInForce b) :
    ((imageInForce b).containers.get c).feClamps = true ↔
      ((takeImage b s).fe.get c).h ≠ ((imageInForce b).containers.get c).h ∨
      ((takeImage b s).fe.get c).tNear ≠ ((imageInForce b).containers.get c).tNear := by
  rw [takeImage_fe b s c h, imageInForce_container b c h, feClamps_iff]
  rfl

/-- The fourth of five alternatives moved to the second place. -/
theorem or_move_fourth {p q r m f : Prop} : (p ∨ q ∨ r) ∨ m ∨ f ↔ p ∨ m ∨ q ∨ r ∨ f := by tauto

/-- The clamped flag that a good image leaves: a clamp of CL, a snapshot mode above 1, or a clamp of FE (R185, R31). -/
theorem takeImage_clamped_iff (b : List Byte) (s : State) :
    (takeImage b s).cl.clamped = true ↔
      OutsideBeforeMode b ∨ Outside 0 1 (fieldAt b 14 1) ∨ OutsideAfterMode b ∨
      ∃ c : Col, c.val < countInForce b ∧ (ContainerOutside (storedContainer b c) ∨
        ((takeImage b s).fe.get c).h ≠ ((imageInForce b).containers.get c).h ∨
        ((takeImage b s).fe.get c).tNear ≠ ((imageInForce b).containers.get c).tNear) := by
  have hfe := exists_congr fun c => and_congr_right (takeImage_feClamps_iff b s c)
  have hany (p : Col → Bool) : cols.any p = true ↔ ∃ c, p c = true := by simp [mem_cols]
  have hcount : (imageInForce b).count = countInForce b := rfl
  have hflag : (takeImage b s).cl.clamped = true ↔ imageInForce b ≠ storedImage b ∨ Outside 0 1 (fieldAt b 14 1) ∨
      ∃ c : Col, c.val < countInForce b ∧ ((imageInForce b).containers.get c).feClamps = true := by
    simp [takeImage, clampApplied, Outside, hany, hcount, or_assoc]
  rw [hflag, imageInForce_ne_iff, hfe, or_move_fourth, ← exists_or]
  simp only [and_or_left]

/-- Settles O20: the bytes of a good image, field by field, and the state that a bad image leaves. -/
theorem imageReadsDecideTheStart : Obligations.ImageReadsDecideTheStart := by
  refine ⟨fun s d b hstage hfree hlen hcrc => ?_, fun s d b hstage hfree hbad => ?_⟩
  · intro u n range given out outGiven count at'
    have hgood : imageGood b = true := (imageGood_iff b).2 ⟨hlen, hcrc⟩
    have himage : (takeImage b u).cl.image = imageInForce b := rfl
    refine ⟨takeImage b u, ?_, rfl, rfl, ?_, ?_, ?_, ?_, ?_, ?_, rfl, rfl, ?_⟩
    · rw [exec_configurationImageRead d b hstage hfree, if_pos hgood]
    · have hgiven {lo hi dflt : Nat} (hlo : lo ≤ dflt) (hhi : dflt ≤ hi) (x : Nat) :
          given dflt lo hi x = clampTo lo hi (orDefault dflt x) := (clampTo_orDefault hlo hhi x).symm
      rw [hgiven (by decide) (by decide), hgiven (by decide) (by decide), hgiven (by decide) (by decide),
        hgiven (by decide) (by decide), hgiven (by decide) (by decide)]
      rfl
    · intro k
      simp [himage, imageInForce, ConfigImage.clamped, storedImage, n]
    · rw [himage, imageInForce_prefs]
      refine List.map_congr_left fun i _ => ?_
      by_cases h : fieldAt b (22 + 2 * i) 1 = 0 <;> simp [Preference.clamped, n, range, clampTo, h]
    · intro i hi
      exact ⟨getLsbD_conditionFlags b 0 i hi, getLsbD_conditionFlags b 1 i hi⟩
    · intro c hc
      rw [himage, imageInForce_container b c hc]
      rfl
    · have hflag := takeImage_clamped_iff b u
      simp only [OutsideBeforeMode, OutsideAfterMode, ContainerOutside, or_assoc] at hflag
      exact hflag
    · intro c k x inc e near
      by_cases hc : c.val < count
      · have hk : k = (storedContainer b c).clamped := imageInForce_container b c hc
        have hfe : (takeImage b u).fe.get c = x.underImage k := by rw [takeImage_fe b u c hc, hk]
        rw [hfe, if_pos hc, if_pos hc, if_pos hc, if_pos hc]
        have hc' : c.val < (imageInForce b).count := hc
        refine ⟨?_, ?_, ?_, rfl⟩ <;> simp [takeImage, depositsInUse, hc']
      · have hc' : ¬ c.val < (imageInForce b).count := hc
        rw [if_neg hc, if_neg hc, if_neg hc, if_neg hc]
        refine ⟨?_, ?_, ?_, ?_⟩ <;> simp [takeImage, depositsInUse, hc']
  · intro u
    have hnot : ¬ imageGood b = true := by
      rw [imageGood_iff]
      omega
    rw [exec_configurationImageRead d b hstage hfree, if_neg hnot]
    rfl

/-! ## Condition positions (12.1) -/

theorem position_lt (k : Cond) (c : Col) : k.position c < 32 := by
  have hcode : k.code ≤ 13 := by cases k <;> decide
  unfold Cond.position
  split <;> omega

theorem getLsbD_positionBit {p : Nat} (hp : p < 32) (i : Nat) : (positionBit p).getLsbD i = decide (i = p) := by
  simp only [positionBit, BitVec.getLsbD_shiftLeft, BitVec.getLsbD_one]
  by_cases h : i = p
  · simp [h, hp]
  · simp [h]
    omega

/-- A flag that stands in the smaller of two sets stands in the larger. -/
theorem getLsbD_of_grows {x y : BitVec 32} (h : x ||| y = y) {i : Nat} (hi : x.getLsbD i = true) : y.getLsbD i = true := by
  rw [← h, BitVec.getLsbD_or, hi, Bool.true_or]

/-- A set is empty when a larger one is. -/
theorem eq_zero_of_grows {x y : BitVec 32} (h : x ||| y = y) (hy : y = 0) : x = 0 := by
  simpa [hy] using h

/-- The flag that an edge sets stands in the pending set. -/
theorem setPending_flag (k : Cond) (c : Col) (s : State) : (setPending k c s).isPending k c = true := by
  simp [State.isPending, setPending, getLsbD_positionBit (position_lt k c)]

/-- An edge that sets its flag leaves a pending set. -/
theorem setPending_ne_zero (k : Cond) (c : Col) (s : State) : (setPending k c s).acu.pending ≠ 0 := by
  intro h
  have hflag := setPending_flag k c s
  simp [State.isPending, h] at hflag

/-! ## What a report of a condition changes (R165 to R167) -/

/-- Reports of conditions change ACU's levels, pending set, latch and counters, and place an ALARM in LC's queue; no flag of the
pending set goes. -/
structure ReportFrame (s t : State) : Prop where
  blocks : t = { s with lc := t.lc, acu := t.acu }
  line : t.lc = { s.lc with
    queue := t.lc.queue, access := t.lc.access, phase := t.lc.phase, arrivals := t.lc.arrivals, tag := t.lc.tag }
  alarms : t.acu = { s.acu with
    levels := t.acu.levels, pending := t.acu.pending, latch := t.acu.latch, live := t.acu.live }
  grows : s.acu.pending ||| t.acu.pending = t.acu.pending

theorem ReportFrame.refl (s : State) : ReportFrame s s := ⟨rfl, rfl, rfl, BitVec.or_self⟩

theorem ReportFrame.trans {s t u : State} (h : ReportFrame s t) (h' : ReportFrame t u) : ReportFrame s u where
  blocks := by rw [h'.blocks, h.blocks]
  line := by rw [h'.line, h.line]
  alarms := by rw [h'.alarms, h.alarms]
  grows := by rw [← h'.grows, ← BitVec.or_assoc, h.grows]

theorem ReportFrame.cl {s t : State} (h : ReportFrame s t) : t.cl = s.cl := by rw [h.blocks]
theorem ReportFrame.fe {s t : State} (h : ReportFrame s t) : t.fe = s.fe := by rw [h.blocks]
theorem ReportFrame.sc {s t : State} (h : ReportFrame s t) : t.sc = s.sc := by rw [h.blocks]
theorem ReportFrame.inRun {s t : State} (h : ReportFrame s t) : t.inRun = s.inRun := by rw [State.inRun, h.cl, State.inRun]
theorem ReportFrame.cfg {s t : State} (h : ReportFrame s t) : t.cfg = s.cfg := by rw [State.cfg, h.cl, State.cfg]

theorem addCount_report (k : Counter) (n : Nat) (s : State) : ReportFrame s (addCount k n s) :=
  ⟨rfl, rfl, rfl, BitVec.or_self⟩

theorem setPending_report (k : Cond) (c : Col) (s : State) : ReportFrame s (setPending k c s) :=
  ⟨rfl, rfl, rfl, by simp [setPending, ← BitVec.or_assoc]⟩

/-- The head's choice changes the access fields alone. -/
theorem headTakesAccess_eq (x : Lc) :
    headTakesAccess x = { x with access := (headTakesAccess x).access, phase := (headTakesAccess x).phase } := by
  unfold headTakesAccess
  split
  · rcases rechoose_cases x with ⟨-, h⟩ | ⟨g, l, -, h⟩ <;> rw [h]
  · rfl

/-- A frame placed on a line, after another was displaced or not. -/
theorem setLc_placed_report (f : TxFrame) (s : State) (x : Lc)
    (hx : x = { s.lc with queue := x.queue, access := x.access, phase := x.phase }) :
    ReportFrame s (s.setLc (headTakesAccess (putFrame f x))) := by
  refine ⟨rfl, ?_, rfl, BitVec.or_self⟩
  rw [State.setLc_lc, headTakesAccess_eq, putFrame, hx]

theorem displace_eq (old : TxFrame) (x : Lc) :
    displace old x = { x with
      queue := (displace old x).queue, access := (displace old x).access, phase := (displace old x).phase } := by
  simp only [displace]
  split <;> rfl

theorem placeFrame_report (f : TxFrame) (s : State) : ReportFrame s (placeFrame f s) := by
  rcases placeFrame_cases f s with ⟨-, h⟩ | ⟨-, h⟩ | ⟨old, -, h⟩ | ⟨-, h⟩ <;> rw [h]
  · exact .refl s
  · exact setLc_placed_report f s s.lc rfl
  · exact (setLc_placed_report f s _ (displace_eq old s.lc)).trans (addCount_report _ _ _)
  · exact addCount_report _ _ _

theorem offerAlarm_report (s : State) : ReportFrame s (offerAlarm s) := by
  unfold offerAlarm
  split
  · exact .refl s
  · exact placeFrame_report _ _

theorem counterFullByAlarm_report (s : State) : ReportFrame s (counterFullByAlarm s) := by
  unfold counterFullByAlarm
  split
  · exact (setPending_report _ _ _).trans (offerAlarm_report _)
  · exact .refl s

theorem announce_report (s : State) : ReportFrame s (announce s) := by
  simp only [announce]
  split
  · exact (offerAlarm_report s).trans (counterFullByAlarm_report _)
  · exact offerAlarm_report s

theorem takeEdge_report (k : Cond) (c : Col) (rise : Bool) (s : State) : ReportFrame s (takeEdge k c rise s) := by
  rcases takeEdge_cases k c rise s with ⟨-, h⟩ | ⟨-, h⟩ <;> rw [h]
  · exact .refl s
  · exact (setPending_report k c s).trans (announce_report _)

theorem raise_report (k : Cond) (c : Col) (s : State) : ReportFrame s (raise k c s) := by
  rcases raise_cases k c s with ⟨-, h⟩ | ⟨-, -, h⟩ <;> rw [h]
  · exact .refl s
  · refine ReportFrame.trans ?_ (takeEdge_report k c true _)
    exact ⟨rfl, rfl, rfl, BitVec.or_self⟩

theorem occur_report (k : Cond) (c : Col) (s : State) : ReportFrame s (occur k c s) := by
  unfold occur
  split
  · exact takeEdge_report k c true s
  · exact .refl s

/-- While the pending set is empty an edge has changed nothing. -/
theorem takeEdge_of_pending_zero {k : Cond} {c : Col} {rise : Bool} {s : State}
    (h : (takeEdge k c rise s).acu.pending = 0) : takeEdge k c rise s = s := by
  rcases takeEdge_cases k c rise s with ⟨-, he⟩ | ⟨-, he⟩
  · exact he
  · rw [he] at h
    exact absurd (eq_zero_of_grows (announce_report _).grows h) (setPending_ne_zero k c s)

theorem raise_lc_of_pending_zero {k : Cond} {c : Col} {s : State} (h : (raise k c s).acu.pending = 0) :
    (raise k c s).lc = s.lc := by
  rcases raise_cases k c s with ⟨-, he⟩ | ⟨-, -, he⟩
  · rw [he]
  · rw [he] at h ⊢
    rw [takeEdge_of_pending_zero h]
    rfl

theorem occur_lc_of_pending_zero {k : Cond} {c : Col} {s : State} (h : (occur k c s).acu.pending = 0) :
    (occur k c s).lc = s.lc := by
  unfold occur at h ⊢
  split at h
  · rw [if_pos ‹_›, takeEdge_of_pending_zero h]
  · rw [if_neg ‹_›]

/-- An occurrence in RUN of a condition that is not masked stands in the pending set (R166). -/
theorem occur_sets {k : Cond} {c : Col} {s : State} (hr : s.inRun = true) (hm : s.cfg.masked.getLsbD k.code = false) :
    (occur k c s).acu.pending.getLsbD (k.position c) = true := by
  rw [occur, if_pos hr]
  rcases takeEdge_cases k c true s with ⟨hn, he⟩ | ⟨-, he⟩ <;> rw [he]
  · simpa [newlySets, qualifies, hm, State.isPending] using hn
  · exact getLsbD_of_grows (announce_report _).grows (setPending_flag k c s)

/-! ## The levels under reports -/

/-- An offer moves ACU's counters alone. -/
theorem placeFrame_acu (f : TxFrame) (s : State) :
    (placeFrame f s).acu = { s.acu with live := (placeFrame f s).acu.live } := by
  rcases placeFrame_cases f s with ⟨-, h⟩ | ⟨-, h⟩ | ⟨old, -, h⟩ | ⟨-, h⟩ <;> rw [h] <;> rfl

theorem offerAlarm_acu (s : State) : (offerAlarm s).acu = { s.acu with live := (offerAlarm s).acu.live } := by
  unfold offerAlarm
  split
  · rfl
  · exact placeFrame_acu _ _

theorem announce_levels (s : State) : (announce s).acu.levels = s.acu.levels := by
  have hoffer (t : State) : (offerAlarm t).acu.levels = t.acu.levels := by rw [offerAlarm_acu]
  simp only [announce, counterFullByAlarm]
  split_ifs
  · rw [hoffer]
    exact hoffer s
  all_goals exact hoffer s

theorem takeEdge_levels (k : Cond) (c : Col) (rise : Bool) (s : State) :
    (takeEdge k c rise s).acu.levels = s.acu.levels := by
  rcases takeEdge_cases k c rise s with ⟨-, h⟩ | ⟨-, h⟩ <;> rw [h]
  rw [announce_levels]
  rfl

theorem occur_levels (k : Cond) (c : Col) (s : State) : (occur k c s).acu.levels = s.acu.levels := by
  unfold occur
  split
  · exact takeEdge_levels k c true s
  · rfl

/-- In RUN a raised ECHO_FAIL is high for its container, and the other containers' levels stand. -/
theorem raise_echoFail_level {s : State} (hr : s.inRun = true) (c e : Col) :
    (raise .echoFail c s).level .echoFail e = (s.level .echoFail e || decide (e = c)) := by
  have hpos : Cond.position .echoFail e = Cond.position .echoFail c ↔ e = c := by
    rw [Fin.ext_iff]
    change 8 + 6 * e.val + 0 = 8 + 6 * c.val + 0 ↔ _
    omega
  rcases raise_cases .echoFail c s with ⟨hn, h⟩ | ⟨-, -, h⟩ <;> rw [h]
  · by_cases he : e = c
    · simpa [he, hr] using hn
    · simp [he]
  · simp [State.level, takeEdge_levels, getLsbD_positionBit (position_lt .echoFail c), hpos]

/-! ## The only ALARM in an empty queue (R115, R167) -/

/-- The ALARM that a line with an empty queue takes. -/
def entryAlarm (x : Lc) : TxFrame := { alarmFrame with arrival := x.arrivals, tag := x.tag }

/-- Since `b` reports have left the counters, and have placed one ALARM if the pending set is not empty. -/
structure AlarmOnly (b t : State) : Prop where
  cl : t.cl = b.cl
  live : t.acu.live = b.acu.live
  queue : (t.acu.pending = 0 ∧ t.lc = b.lc) ∨ (t.acu.pending ≠ 0 ∧ t.lc.queue = [entryAlarm b.lc])

section

variable {b : State} (hown : b.cfg.ownAddress ≠ 0) (hempty : b.lc.queue = [])

/-- An ALARM offered to an empty queue is placed, and nothing is counted. -/
theorem announce_empty {t : State} (hown : t.cfg.ownAddress ≠ 0) (hempty : t.lc.queue = []) :
    (announce t).lc.queue = [entryAlarm t.lc] ∧ (announce t).acu = t.acu := by
  have hplace : placementOf alarmFrame t = .placed := by simp [placementOf, hown, hempty]
  have hnone : t.queued .alarm = false := by simp [State.queued, hempty]
  have hann : announce t = t.setLc (headTakesAccess (putFrame alarmFrame t.lc)) := by
    simp [announce, placementFills, offerAlarm, placeFrame, hplace, hnone]
  rw [hann, State.setLc_lc, headTakesAccess_eq]
  simp [putFrame, hempty, insertFrame, entryAlarm, alarmFrame, originFrame]

/-- An ALARM is met when one is queued. -/
theorem announce_queued {t : State} (h : t.queued .alarm = true) : announce t = t := by
  simp [announce, offerAlarm, h]

include hown hempty

/-- With the pending set not empty, the line as it was or with the ALARM has the ALARM once it is announced. -/
theorem AlarmOnly.announce {t : State} (hcl : t.cl = b.cl) (hlive : t.acu.live = b.acu.live) (hp : t.acu.pending ≠ 0)
    (hq : t.lc = b.lc ∨ t.lc.queue = [entryAlarm b.lc]) : AlarmOnly b (announce t) := by
  rcases hq with hq | hq
  · have hcfg : t.cfg.ownAddress ≠ 0 := by rwa [State.cfg, hcl]
    obtain ⟨hqueue, hacu⟩ := announce_empty hcfg (hq ▸ hempty)
    exact ⟨(announce_report t).cl.trans hcl, hacu ▸ hlive, .inr ⟨hacu ▸ hp, hq ▸ hqueue⟩⟩
  · have hqueued : t.queued .alarm = true := by simp [State.queued, hq, entryAlarm, alarmFrame, originFrame]
    rw [announce_queued hqueued]
    exact ⟨hcl, hlive, .inr ⟨hp, hq⟩⟩

theorem AlarmOnly.takeEdge {t : State} (h : AlarmOnly b t) (k : Cond) (c : Col) (rise : Bool) :
    AlarmOnly b (takeEdge k c rise t) := by
  rcases takeEdge_cases k c rise t with ⟨-, he⟩ | ⟨-, he⟩ <;> rw [he]
  · exact h
  · exact AlarmOnly.announce hown hempty h.cl h.live (setPending_ne_zero k c t) (h.queue.imp And.right And.right)

theorem AlarmOnly.raise {t : State} (h : AlarmOnly b t) (k : Cond) (c : Col) : AlarmOnly b (raise k c t) := by
  rcases raise_cases k c t with ⟨-, he⟩ | ⟨-, -, he⟩ <;> rw [he]
  · exact h
  · refine AlarmOnly.takeEdge hown hempty ?_ k c true
    exact ⟨h.cl, h.live, h.queue⟩

theorem AlarmOnly.occur {t : State} (h : AlarmOnly b t) (k : Cond) (c : Col) : AlarmOnly b (occur k c t) := by
  unfold Machine.occur
  split
  · exact h.takeEdge hown hempty k c true
  · exact h

end

/-! ## The reports at the entry to RUN (R46, R64, R170, R189) -/

/-- The ALARM of a pending set that was kept (R189). -/
def announceKept (s : State) : State := if s.acu.pending = 0 then s else announce s

/-- ECHO_FAIL raised again for a container whose kept count is 6 or more (R46). -/
def reraise (s : State) (c : Col) : State := if 6 ≤ (s.fe.get c).echoFail then raise .echoFail c s else s

/-- An occurrence reported when it is due. -/
def occurIf (due : Bool) (k : Cond) (s : State) : State := if due then occur k 0 s else s

/-- The occurrences due at the entry, in their order (R182, R189). -/
def occurDue (s : State) : State :=
  occurIf s.sc.counterFullDue .counterFull (occurIf s.sc.logLostDue .logLost (occurIf s.cl.clamped .configClamped s))

/-- SC's marks of what a warm reset discarded are gone. -/
def forgetDue (s : State) : State := s.setSc { s.sc with logLostDue := false, counterFullDue := false }

/-- Every report at the entry, in the order of R189. -/
def entryReports (s : State) : State := occurDue (raiseEchoFails (announceKept s))

/-- The state that the reports at the entry find: the blocks' own values and the first beacon's draw. -/
def entryBase (s : State) : State := startBeacons (enterRunBlocks s)

theorem enterRun_eq (s : State) : enterRun s = serve (forgetDue (entryReports (entryBase s))) := rfl

theorem raiseEchoFails_eq (s : State) : raiseEchoFails s = s.usedCols.foldl reraise s := rfl

/-- What the announcing, the raises and the occurrences keep, the reports at the entry keep. -/
theorem entryReports_induction {P : State → Prop} {s : State} (hkept : P (announceKept s))
    (hraise : ∀ t c, P t → P (raise .echoFail c t)) (hoccur : ∀ t k, P t → P (occur k 0 t)) : P (entryReports s) := by
  have hif (due : Bool) (k : Cond) (t : State) (h : P t) : P (occurIf due k t) := by
    unfold occurIf
    split
    · exact hoccur t k h
    · exact h
  refine hif _ _ _ (hif _ _ _ (hif _ _ _ ?_))
  rw [raiseEchoFails_eq]
  refine List.foldlRecOn _ _ hkept fun t ht c _ => ?_
  unfold reraise
  split
  · exact hraise t c ht
  · exact ht

theorem announceKept_report (s : State) : ReportFrame s (announceKept s) := by
  unfold announceKept
  split
  · exact .refl s
  · exact announce_report s

theorem entryReports_report (s : State) : ReportFrame s (entryReports s) :=
  entryReports_induction (announceKept_report s) (fun _ _ h => h.trans (raise_report _ _ _))
    (fun _ _ h => h.trans (occur_report _ _ _))

/-- While the pending set is empty no report has touched the line. -/
theorem entryReports_lc {s : State} (h : (entryReports s).acu.pending = 0) : (entryReports s).lc = s.lc := by
  refine entryReports_induction (P := fun t => t.acu.pending = 0 → t.lc = s.lc) (s := s) ?_ ?_ ?_ h
  · intro hp
    have hs : s.acu.pending = 0 := eq_zero_of_grows (announceKept_report s).grows hp
    rw [announceKept, if_pos hs]
  · intro t c ht hp
    rw [raise_lc_of_pending_zero hp, ht (eq_zero_of_grows (raise_report _ _ _).grows hp)]
  · intro t k ht hp
    rw [occur_lc_of_pending_zero hp, ht (eq_zero_of_grows (occur_report _ _ _).grows hp)]

/-- On an empty queue of a station with an address the reports place one ALARM at most, and count nothing. -/
theorem entryReports_alarmOnly {s : State} (hown : s.cfg.ownAddress ≠ 0) (hempty : s.lc.queue = []) :
    AlarmOnly s (entryReports s) := by
  refine entryReports_induction ?_ (fun t c h => h.raise hown hempty _ c) (fun t k h => h.occur hown hempty k 0)
  by_cases hp : s.acu.pending = 0
  · rw [announceKept, if_pos hp]
    exact ⟨rfl, rfl, .inl ⟨hp, rfl⟩⟩
  · rw [announceKept, if_neg hp]
    exact AlarmOnly.announce hown hempty rfl rfl hp (.inl rfl)

/-! ### The conditions raised -/

theorem occurIf_report (due : Bool) (k : Cond) (s : State) : ReportFrame s (occurIf due k s) := by
  unfold occurIf
  split
  · exact occur_report k 0 s
  · exact .refl s

theorem occurIf_sets {due : Bool} {k : Cond} {s : State} (hdue : due = true) (hr : s.inRun = true)
    (hm : s.cfg.masked.getLsbD k.code = false) : (occurIf due k s).acu.pending.getLsbD (k.position 0) = true := by
  rw [occurIf, if_pos hdue, occur_sets hr hm]

theorem raiseEchoFails_report (s : State) : ReportFrame s (raiseEchoFails s) := by
  rw [raiseEchoFails_eq]
  refine List.foldlRecOn _ _ (.refl s) fun t ht c _ => ht.trans ?_
  unfold reraise
  split
  · exact raise_report _ _ _
  · exact .refl t

/-- Each occurrence due stands in the pending set when the reports are done, unless it is masked (R64, R170). -/
theorem entryReports_sets {s : State} (hr : s.inRun = true) :
    (s.cl.clamped = true → s.cfg.masked.getLsbD 7 = false → (entryReports s).acu.pending.getLsbD 7 = true) ∧
    (s.sc.logLostDue = true → s.cfg.masked.getLsbD 4 = false → (entryReports s).acu.pending.getLsbD 4 = true) ∧
    (s.sc.counterFullDue = true → s.cfg.masked.getLsbD 5 = false → (entryReports s).acu.pending.getLsbD 5 = true) := by
  have hf := (announceKept_report s).trans (raiseEchoFails_report _)
  rw [entryReports, occurDue, hf.cl, hf.sc]
  generalize raiseEchoFails (announceKept s) = t at hf
  have h1 := occurIf_report s.cl.clamped .configClamped t
  have h2 := occurIf_report s.sc.logLostDue .logLost (occurIf s.cl.clamped .configClamped t)
  have h3 := occurIf_report s.sc.counterFullDue .counterFull
    (occurIf s.sc.logLostDue .logLost (occurIf s.cl.clamped .configClamped t))
  refine ⟨fun hdue hm => ?_, fun hdue hm => ?_, fun hdue hm => ?_⟩
  · refine getLsbD_of_grows (h2.trans h3).grows (occurIf_sets (k := .configClamped) hdue ?_ ?_)
    · rw [hf.inRun, hr]
    · rw [hf.cfg]; exact hm
  · refine getLsbD_of_grows h3.grows (occurIf_sets (k := .logLost) hdue ?_ ?_)
    · rw [(hf.trans h1).inRun, hr]
    · rw [(hf.trans h1).cfg]; exact hm
  · refine occurIf_sets (k := .counterFull) hdue ?_ ?_
    · rw [((hf.trans h1).trans h2).inRun, hr]
    · rw [((hf.trans h1).trans h2).cfg]; exact hm

/-- The raises of ECHO_FAIL over some containers: a level is high when it was, or when its container is one of them and its count
is 6 or more. -/
theorem foldl_reraise_level (l : List Col) {s : State} (hr : s.inRun = true) (e : Col) :
    (l.foldl reraise s).level .echoFail e = (s.level .echoFail e || decide (e ∈ l ∧ 6 ≤ (s.fe.get e).echoFail)) := by
  induction l generalizing s with
  | nil => simp
  | cons c l ih =>
    rw [List.foldl_cons, reraise]
    split
    · rename_i hc
      have hf := raise_report .echoFail c s
      rw [ih (hf.inRun.trans hr), raise_echoFail_level hr, hf.fe]
      by_cases he : e = c <;> simp [he, hc]
    · rename_i hc
      rw [ih hr]
      by_cases he : e = c <;> simp [he, hc]

theorem occurDue_levels (s : State) : (occurDue s).acu.levels = s.acu.levels := by
  have hif (due : Bool) (k : Cond) (t : State) : (occurIf due k t).acu.levels = t.acu.levels := by
    unfold occurIf
    split
    · exact occur_levels k 0 t
    · rfl
  rw [occurDue, hif, hif, hif]

/-- From no level high, ECHO_FAIL is high for exactly the containers in use whose kept count is 6 or more (R46). -/
theorem entryReports_level {s : State} (hr : s.inRun = true) (hl : s.acu.levels = 0) {c : Col} (hc : s.inUse c = true) :
    (entryReports s).level .echoFail c = decide (6 ≤ (s.fe.get c).echoFail) := by
  have hf := announceKept_report s
  have hlow : (announceKept s).level .echoFail c = false := by
    have hkept : (announceKept s).acu.levels = s.acu.levels := by
      unfold announceKept
      split
      · rfl
      · exact announce_levels s
    simp [State.level, hkept, hl]
  have hmem : c ∈ (announceKept s).usedCols := by
    have huse : (announceKept s).inUse c = true := by rw [State.inUse, hf.cl]; exact hc
    simp [State.usedCols, mem_cols, huse]
  have hlevel := foldl_reraise_level (announceKept s).usedCols (hf.inRun.trans hr) c
  have hdue : (entryReports s).level .echoFail c = (raiseEchoFails (announceKept s)).level .echoFail c := by
    rw [entryReports, State.level, occurDue_levels, State.level]
  rw [hdue, raiseEchoFails_eq, hlevel]
  simp [hlow, hmem, hf.fe]

/-- With no condition due and no counter about to fill, the reports leave ACU as it was but for its counters. -/
theorem entryReports_acu_of_none_due {s : State} (hclamp : s.cl.clamped = false) (hlog : s.sc.logLostDue = false)
    (hfull : s.sc.counterFullDue = false) (hecho : ∀ c, s.inUse c = true → (s.fe.get c).echoFail < 6)
    (htx : s.acu.live.txAbandoned ≠ 65534) :
    (entryReports s).acu = { s.acu with live := (entryReports s).acu.live } := by
  have hf := announceKept_report s
  have hraise : raiseEchoFails (announceKept s) = announceKept s := by
    rw [raiseEchoFails_eq]
    refine List.foldlRecOn (motive := fun t => t = announceKept s) _ _ rfl fun t ht c hc => ?_
    have huse : s.inUse c = true := by
      have hin := (List.mem_filter.1 hc).2
      rwa [State.inUse, hf.cl] at hin
    rw [ht, reraise, if_neg]
    rw [hf.fe]
    exact Nat.not_le.2 (hecho c huse)
  have hreports : entryReports s = announceKept s := by
    rw [entryReports, hraise, occurDue, hf.cl, hf.sc, hclamp, hlog, hfull]
    rfl
  have hfills : placementFills alarmFrame s = false := by
    have htop : reachesTop .txAbandoned 1 s = false := by
      rw [Bool.eq_false_iff]
      intro h
      obtain ⟨hlt, hle⟩ := Bool.and_eq_true_iff.1 h
      have hlt' : s.acu.live.txAbandoned < 65535 := of_decide_eq_true hlt
      have hle' : 65535 ≤ s.acu.live.txAbandoned + 1 := of_decide_eq_true hle
      omega
    cases hplace : placementOf alarmFrame s <;> simp [placementFills, hplace, htop]
  rw [hreports, announceKept]
  split
  · rfl
  · simpa [announce, hfills] using offerAlarm_acu s

/-! ## The arbiter at the entry to RUN -/

theorem beginMeasurement_eu (c : Col) (s : State) :
    (beginMeasurement c s).eu = { s.eu with
      cols := s.eu.cols.set c { s.eu.cols.get c with request := false, periodic := .start }
      pointer := c.val
      inFlight := some (newMeasurement c s.eu.temperature) } := rfl

theorem beginMeasurement_fe (c : Col) (s : State) :
    (beginMeasurement c s).fe = s.fe.set c { s.fe.get c with nAtStart := (s.fe.get c).nd } := rfl

/-- The arbiter changes EU and FE alone. -/
theorem serve_eq_update (s : State) : serve s = { s with eu := (serve s).eu, fe := (serve s).fe } := by
  rcases serve_cases s with h | ⟨c, -, -, -, -, h⟩
  · rw [h]
  · rw [h]
    rfl

/-- The arbiter moves the pointer only when it begins a measurement, and then to its container (R25). -/
theorem serve_pointer (s : State) :
    (serve s).eu = { s.eu with
      cols := (serve s).eu.cols, pointer := (serve s).eu.pointer, inFlight := (serve s).eu.inFlight } ∧
    ((serve s).eu.inFlight = s.eu.inFlight → (serve s).eu.pointer = s.eu.pointer) ∧
    (s.eu.inFlight = none → ∀ m ∈ (serve s).eu.inFlight, (serve s).eu.pointer = m.cont.val) := by
  rcases serve_cases s with h | ⟨c, -, hfree, -, -, h⟩ <;> rw [h]
  · exact ⟨rfl, fun _ => rfl, fun hn m hm => by simp [hn] at hm⟩
  · rw [beginMeasurement_eu]
    refine ⟨rfl, fun he => by simp [hfree] at he, fun _ m hm => ?_⟩
    obtain rfl := Option.some.inj hm
    rfl

/-- A container that the station does not have is not served. -/
theorem serve_unused {s : State} {c : Col} (hc : s.cfg.count ≤ c.val) :
    (serve s).fe.get c = s.fe.get c ∧ (serve s).eu.cols.get c = s.eu.cols.get c := by
  rcases serve_cases s with h | ⟨k, -, -, hk, -, h⟩ <;> rw [h]
  · exact ⟨rfl, rfl⟩
  · have hne : c ≠ k := fun e => by rw [e] at hc; omega
    simp [beginMeasurement_eu, beginMeasurement_fe, hne]

/-- A container that does not ask is not served. -/
theorem serve_unasked {s : State} {c : Col} (hq : (s.eu.cols.get c).request = false) :
    (serve s).fe.get c = s.fe.get c ∧ (serve s).eu.cols.get c = s.eu.cols.get c ∧
    ∀ m ∈ (serve s).eu.inFlight, m.cont = c → s.eu.inFlight = some m := by
  rcases serve_cases s with h | ⟨k, -, -, -, hk, h⟩ <;> rw [h]
  · exact ⟨rfl, rfl, fun _ hm _ => hm⟩
  · have hne : c ≠ k := fun e => by simp [← e, hq] at hk
    refine ⟨by simp [beginMeasurement_fe, hne], by simp [beginMeasurement_eu, hne], fun m hm hcont => ?_⟩
    obtain rfl := Option.some.inj hm
    exact absurd hcont.symm hne

/-- A container that asks goes on asking or is served. -/
theorem serve_asked {s : State} {c : Col} (hq : (s.eu.cols.get c).request = true) :
    ((serve s).eu.cols.get c).request = true ∨ ∃ m ∈ (serve s).eu.inFlight, m.cont = c := by
  rcases serve_cases s with h | ⟨k, -, -, -, -, h⟩ <;> rw [h]
  · exact .inl hq
  · by_cases he : c = k
    · exact .inr ⟨_, rfl, he.symm⟩
    · exact .inl (by simp [beginMeasurement_eu, he, hq])

/-- Of a container whose periodic timer has just started the arbiter changes the request flag, and FE notes n_d (R24, R27). -/
theorem serve_column {s : State} {c : Col} (hp : (s.eu.cols.get c).periodic = .start) :
    (serve s).eu.cols.get c = { s.eu.cols.get c with request := ((serve s).eu.cols.get c).request } ∧
    (serve s).fe.get c = { s.fe.get c with nAtStart := ((serve s).fe.get c).nAtStart } := by
  rcases serve_cases s with h | ⟨k, -, -, -, -, h⟩ <;> rw [h]
  · exact ⟨rfl, rfl⟩
  · by_cases he : c = k
    · simp [beginMeasurement_eu, beginMeasurement_fe, he, ← hp]
    · simp [beginMeasurement_eu, beginMeasurement_fe, he]

/-! ## The derivation and the blocks' own values (R188, R189) -/

/-- A container derived and taken into RUN, its inputs at the levels the derivation takes (R188, Table 11-1). -/
theorem enterRun_derived (x : Cc) (f : Fe) :
    (x.derived f).enterRun =
      let drum := if x.drumSettled then x.drum else .opened
      let sense := if x.senseSettled then x.sense else .released
      let level := if x.presentSettled then x.present else .present
      { x with
        drum := drum, sense := sense, present := level, cls := f.cls, drive := .engage
        state := if level = .absent then .lifted else if drum = .opened then .fault
          else if f.cls = .full then .full else .idle
        roundId := if level = .absent then some (x.roundId.getD 0) else none
        fillBefore := if level = .absent ∧ x.state ≠ .lifted ∧ x.state ≠ .missing then f.e else x.fillBefore
        confirm := ⟨0, decide (sense = .released ∧ drum = .closed)⟩
        drumTimer := ⟨0, decide (drum = .opened)⟩
        lift := ⟨0, decide (level = .absent)⟩ } := by
  simp only [Cc.derived, Cc.fixedLevels]
  generalize (if x.drumSettled then x.drum else .opened) = drum
  generalize (if x.senseSettled then x.sense else .released) = sense
  generalize (if x.presentSettled then x.present else .present) = level
  have htimer : (if drum = .opened then Timer.start else .zero) = ⟨0, decide (drum = .opened)⟩ := by cases drum <;> rfl
  cases level with
  | absent =>
    simp only [Cc.enterRun, htimer, Bool.decide_and, true_and, ne_eq, ← not_or, ite_not, if_true, decide_true]
  | present =>
    cases drum with
    | closed => by_cases hfull : f.cls = .full <;> simp [Cc.enterRun, stateByClass, hfull, Timer.zero]
    | opened => simp [Cc.enterRun, Timer.start]

theorem ready_eq (x : Au) : x.ready = withIndication (.plain .ready) x := by
  unfold Au.ready Au.send withIndication
  split <;> rfl

theorem derived_present (x : Cc) (f : Fe) :
    (x.derived f).present = if x.presentSettled then x.present else .present := by
  have henter : (x.derived f).present = (x.derived f).enterRun.present := rfl
  rw [henter, enterRun_derived]

@[simp] theorem deriveStates_inUse (s : State) (c : Col) : (deriveStates s).inUse c = s.inUse c := rfl
@[simp] theorem deriveStates_au (s : State) : (deriveStates s).au = s.au := rfl
@[simp] theorem deriveStates_eu (s : State) : (deriveStates s).eu = s.eu := rfl

theorem deriveStates_cc (s : State) (c : Col) :
    (deriveStates s).cc.get c = if s.inUse c then (s.cc.get c).derived (s.fe.get c) else s.cc.get c := by
  simp [deriveStates]

theorem entryBase_cc (s : State) (c : Col) :
    (entryBase s).cc.get c = if s.inUse c then (s.cc.get c).enterRun else s.cc.get c := by
  simp [entryBase, startBeacons, drawUpTo, enterRunBlocks]

theorem entryBase_au (s : State) (c : Col) :
    (entryBase s).au.get c = if s.inUse c then (s.au.get c).ready else s.au.get c := by
  simp [entryBase, startBeacons, drawUpTo, enterRunBlocks]

theorem entryBase_cols (s : State) (c : Col) : (entryBase s).eu.cols.get c = euAtEntry s c := by
  simp [entryBase, startBeacons, drawUpTo, enterRunBlocks]

/-- STARTING at a stage stands on power. -/
theorem powered_of_atStage {s : State} {st : StartStage} (h : s.atStage st = true) : s.cl.powered = true := by
  simp only [State.atStage, Bool.and_eq_true] at h
  exact h.1.1.1

/-! ## The entry to RUN from the derivation -/

/-- The state that the reports at the entry find: the containers derived, the blocks at their own values (Table 11-1). -/
def derivedBase (u : State) : State := entryBase (deriveStates u)

/-- The same state once the reports are done. -/
def derivedReports (u : State) : State := entryReports (derivedBase u)

/-- The state that the derivation and the entry to RUN leave. -/
def entered (u : State) : State := enterRun (deriveStates u)

theorem derivedBase_cl (u : State) : (derivedBase u).cl = { u.cl with phase := .run, startKind := .warm } := rfl
theorem derivedBase_lc (u : State) :
    (derivedBase u).lc = { u.lc with idle := 0, busy := false, silence := .start } := rfl

theorem derivedBase_inRun {u : State} (h : u.cl.powered = true) : (derivedBase u).inRun = true := by
  simp [State.inRun, derivedBase_cl, h]

/-- The records of a container in use when the reports begin. -/
theorem derivedBase_column {u : State} {c : Col} (hc : u.inUse c = true) :
    (derivedBase u).cc.get c = ((u.cc.get c).derived (u.fe.get c)).enterRun ∧
    (derivedBase u).au.get c = withIndication (.plain .ready) (u.au.get c) ∧
    (derivedBase u).eu.cols.get c = (u.eu.cols.get c).enterRun
      (if (u.cc.get c).presentSettled then (u.cc.get c).present else .present) := by
  rw [derivedBase, entryBase_cc, entryBase_au, entryBase_cols, euAtEntry]
  simp [deriveStates_cc, hc, derived_present, ready_eq]

/-- The records of the other containers stand. -/
theorem derivedBase_unused {u : State} {c : Col} (hc : u.inUse c = false) :
    (derivedBase u).cc.get c = u.cc.get c ∧ (derivedBase u).au.get c = u.au.get c ∧
    (derivedBase u).eu.cols.get c = u.eu.cols.get c := by
  rw [derivedBase, entryBase_cc, entryBase_au, entryBase_cols, euAtEntry]
  simp [deriveStates_cc, hc]

theorem derivedReports_report (u : State) : ReportFrame (derivedBase u) (derivedReports u) := entryReports_report _

theorem entered_eq (u : State) : entered u = serve (forgetDue (derivedReports u)) :=
  enterRun_eq (deriveStates u)

/-- The entry to RUN: the reports follow the blocks' own values, and the arbiter ends it (R189). -/
theorem entered_eq_update (u : State) :
    entered u = { derivedBase u with
      lc := (derivedReports u).lc
      acu := (derivedReports u).acu
      sc := { u.sc with logLostDue := false, counterFullDue := false }
      eu := (entered u).eu
      fe := (entered u).fe } := by
  have hf := derivedReports_report u
  have hsc : (derivedReports u).sc = u.sc := hf.sc
  rw [entered_eq, serve_eq_update]
  simp only [forgetDue, State.setSc, hsc]
  rw [hf.blocks]

theorem entered_cc (u : State) : (entered u).cc = (derivedBase u).cc := by rw [entered_eq_update]
theorem entered_au (u : State) : (entered u).au = (derivedBase u).au := by rw [entered_eq_update]
theorem entered_lc (u : State) : (entered u).lc = (derivedReports u).lc := by rw [entered_eq_update]
theorem entered_acu (u : State) : (entered u).acu = (derivedReports u).acu := by rw [entered_eq_update]
theorem entered_nu (u : State) : (entered u).nu = (derivedBase u).nu := by rw [entered_eq_update]
theorem entered_tu (u : State) : (entered u).tu = (derivedBase u).tu := by rw [entered_eq_update]
theorem entered_freeIndex (u : State) : (entered u).freeIndex = (derivedBase u).freeIndex := by rw [entered_eq_update]

/-- What the arbiter finds at the end of the entry: EU and FE as before the reports. -/
theorem entered_serve (u : State) : ∃ v, entered u = serve v ∧ v.eu = (derivedBase u).eu ∧ v.fe = u.fe ∧ v.cfg = u.cfg := by
  have hf := derivedReports_report u
  refine ⟨forgetDue (derivedReports u), entered_eq u, ?_, hf.fe, hf.cfg⟩
  change (derivedReports u).eu = (derivedBase u).eu
  rw [hf.blocks]

/-- The request flags at the entry (R24, R46): a container in use asks exactly when its record is fresh and it reads PRESENT,
and one that asks goes on asking or is served by a free EU. -/
theorem entered_measurement {u : State} {c : Col} (hc : u.inUse c = true) :
    let level := if (u.cc.get c).presentSettled then (u.cc.get c).present else .present
    let t := entered u
    t.fe.get c = { u.fe.get c with nAtStart := (t.fe.get c).nAtStart } ∧
    ((u.eu.cols.get c).fresh = true → level = .present →
      (t.eu.cols.get c).request = true ∨ ∃ m ∈ t.eu.inFlight, m.cont = c) ∧
    ((u.eu.cols.get c).fresh = false ∨ level = .absent →
      (t.eu.cols.get c).request = false ∧ t.fe.get c = u.fe.get c ∧
      ∀ m ∈ t.eu.inFlight, m.cont = c → u.eu.inFlight = some m) ∧
    t.eu.cols.get c = { u.eu.cols.get c with
      periodic := .start, fresh := false, request := (t.eu.cols.get c).request } := by
  intro level t
  obtain ⟨v, hserve, heu, hfe, -⟩ := entered_serve u
  have hcols : v.eu.cols.get c = (u.eu.cols.get c).enterRun level := by rw [heu, (derivedBase_column hc).2.2]
  have hrequest : (v.eu.cols.get c).request = ((u.eu.cols.get c).fresh && decide (level = .present)) := by
    rw [hcols]
    rfl
  obtain ⟨hcol, hfecol⟩ := serve_column (s := v) (c := c) (by rw [hcols]; rfl)
  simp only [t, hserve, ← hfe]
  refine ⟨hfecol, fun hfresh hlevel => ?_, fun hnone => ?_, ?_⟩
  · exact serve_asked (by rw [hrequest, hfresh, hlevel]; rfl)
  · have hq : (v.eu.cols.get c).request = false := by
      rw [hrequest]
      rcases hnone with h | h <;> simp [h]
    obtain ⟨hfesame, heusame, hflight⟩ := serve_unasked hq
    rw [heu] at hflight
    exact ⟨heusame ▸ hq, hfesame, hflight⟩
  · rw [hcol, hcols]
    rfl

/-- The containers that the station does not have stand (log entry 17). -/
theorem entered_unused {u : State} {c : Col} (hc : u.cl.image.count ≤ c.val) :
    (entered u).cc.get c = u.cc.get c ∧ (entered u).au.get c = u.au.get c ∧
    (entered u).fe.get c = u.fe.get c ∧ (entered u).eu.cols.get c = u.eu.cols.get c := by
  obtain ⟨hcc, hau, heuc⟩ := derivedBase_unused (u := u) (c := c) (decide_eq_false (Nat.not_lt.2 hc))
  obtain ⟨v, hserve, heu, hfe, hcfg⟩ := entered_serve u
  obtain ⟨hfesame, heusame⟩ := serve_unused (s := v) (c := c) (by rw [hcfg]; exact hc)
  refine ⟨by rw [entered_cc, hcc], by rw [entered_au, hau], ?_, ?_⟩
  · rw [hserve, hfesame, hfe]
  · rw [hserve, heusame, heu, heuc]

/-- The arbiter's pointer and flight at the entry (R25). -/
theorem entered_pointer (u : State) :
    let t := entered u
    t.eu = { u.eu with cols := t.eu.cols, pointer := t.eu.pointer, inFlight := t.eu.inFlight } ∧
    (t.eu.inFlight = u.eu.inFlight → t.eu.pointer = u.eu.pointer) ∧
    (u.eu.inFlight = none → ∀ m ∈ t.eu.inFlight, t.eu.pointer = m.cont.val) := by
  obtain ⟨v, hserve, heu, -, -⟩ := entered_serve u
  have hpointer := serve_pointer v
  rw [heu, ← hserve] at hpointer
  exact hpointer

/-- ECHO_FAIL after the entry, from no level high (R46). -/
theorem entered_level {u : State} (hp : u.cl.powered = true) {c : Col} (hc : u.inUse c = true) (hl : u.acu.levels = 0) :
    (entered u).level .echoFail c = decide (6 ≤ (u.fe.get c).echoFail) := by
  rw [State.level, entered_acu]
  exact entryReports_level (derivedBase_inRun hp) hl hc

/-- With no condition due and TX_ABANDONED not about to fill, ACU keeps all but its report timer and its counters. -/
theorem entered_acu_of_none_due {u : State} (hclamp : u.cl.clamped = false) (hlog : u.sc.logLostDue = false)
    (hfull : u.sc.counterFullDue = false) (hecho : ∀ c : Col, c.val < u.cl.image.count → (u.fe.get c).echoFail < 6)
    (htx : u.acu.live.txAbandoned ≠ 65534) :
    (entered u).acu = { u.acu with report := .start, live := (entered u).acu.live } := by
  have hnone := entryReports_acu_of_none_due (s := derivedBase u) hclamp hlog hfull
    (fun c hc => hecho c (of_decide_eq_true hc)) htx
  rw [entered_acu]
  exact hnone

/-- One ALARM at most joins an empty queue at the entry, and nothing is counted (R167, R189). -/
theorem entered_alarm {u : State} (hp : (entered u).acu.pending ≠ 0) (hown : u.cfg.ownAddress ≠ 0) (hempty : u.lc.queue = []) :
    (entered u).lc.queue = [entryAlarm u.lc] ∧ (entered u).acu.live = u.acu.live := by
  have halarm : AlarmOnly (derivedBase u) (derivedReports u) := entryReports_alarmOnly hown hempty
  rw [entered_acu] at hp ⊢
  rw [entered_lc]
  exact ⟨(halarm.queue.resolve_left fun h => hp h.1).2, halarm.live⟩

/-- While the pending set is empty the queue stands. -/
theorem entered_queue_of_pending_zero {u : State} (hp : (entered u).acu.pending = 0) :
    (entered u).lc.queue = u.lc.queue := by
  rw [entered_acu] at hp
  rw [entered_lc, derivedReports, entryReports_lc hp, derivedBase_lc]

/-- The derivation is taken at its stage (R188). -/
theorem exec_containerStateDerivation {s : State} (d : Nat) (hs : s.atStage .derivation = true) :
    exec (.containerStateDerivation d) s = .next (entered (s.advance d)) := by
  simp [exec, execContainerStateDerivation, advance_of_atStage hs, hs, entered]

/-- Settles O22: the blocks' own values, the reports that follow them and the arbiter at the end, clause by clause. -/
theorem derivationEntersRun : Obligations.DerivationEntersRun := by
  intro s d hstage u
  have hpower : u.cl.powered = true := by
    rw [show u = s from advance_of_atStage hstage d]
    exact powered_of_atStage hstage
  have hreport := derivedReports_report u
  obtain ⟨hclamp, hlog, hfull⟩ := entryReports_sets (derivedBase_inRun hpower)
  obtain ⟨heu, hsame, hnew⟩ := entered_pointer u
  have hline : (entered u).lc = { u.lc with
      idle := 0, busy := false, silence := .start
      queue := (entered u).lc.queue, access := (entered u).lc.access, phase := (entered u).lc.phase
      arrivals := (entered u).lc.arrivals, tag := (entered u).lc.tag } := by
    rw [entered_lc]
    exact hreport.line
  have hacu : (entered u).acu = { u.acu with
      report := .start, levels := (entered u).acu.levels, pending := (entered u).acu.pending
      latch := (entered u).acu.latch, live := (entered u).acu.live } := by
    rw [entered_acu]
    exact hreport.alarms
  refine ⟨entered u, exec_containerStateDerivation d hstage, ?_, ?_, fun c hc => entered_unused hc, heu, hsame, hnew,
    by rw [hline], by rw [hline], by rw [hline]; rfl, by rw [entered_nu]; rfl, ?_, by rw [entered_tu]; rfl,
    by rw [hacu]; rfl, ?_, ?_, ?_, ?_, ?_, fun hp => entered_queue_of_pending_zero hp,
    fun hp hown hempty => entered_alarm hp hown hempty⟩
  · rw [entered_cc, entered_au, entered_lc, entered_nu, entered_tu, entered_acu, entered_freeIndex]
    exact entered_eq_update u
  · intro c hc x f drum sense level away
    have huse : u.inUse c = true := decide_eq_true hc
    obtain ⟨hcc, hau, -⟩ := derivedBase_column huse
    obtain ⟨hfe, hasked, hunasked, hcols⟩ := entered_measurement huse
    refine ⟨?_, ?_, hfe, fun hfresh hlevel _ => hasked hfresh hlevel, hunasked, hcols, entered_level hpower huse⟩
    · rw [entered_cc, hcc, enterRun_derived]
    · rw [entered_au, hau]
  · exact ⟨_, (drawUpTo_spec u.cfg.beaconInterval u).1, by rw [entered_nu]; rfl⟩
  · rw [entered_acu]; exact hclamp
  · rw [entered_acu]; exact hlog
  · rw [entered_acu]; exact hfull
  · rw [entered_acu]; exact hreport.grows
  · exact fun h1 h2 h3 h4 h5 => entered_acu_of_none_due h1 h2 h3 h4 h5

end Sys2Proof.FillProofs
end

section
/-! SUPPORT. The proofs of the statements on the card directory and the non-volatile store (chapters 3, 5 and 9): what one step can
do to the directory image, the store, the revocation list and the log, said once as a relation, and the invariants read off it. -/

namespace Sys2Proof.StoreProofs

open Sys2Proof.Machine Sys2Proof.Safety

/-! ## What a step can do to the store group -/

/-- Nothing of the store group changes: the directory image, the store with what waits for it, RU's list and mark, DL's indices. -/
def Still (s t : State) : Prop :=
  t.cd.image = s.cd.image ∧ t.sc.store = s.sc.store ∧ t.sc.queue = s.sc.queue ∧ t.sc.staging = s.sc.staging ∧
  t.sc.inFlight = s.sc.inFlight ∧ t.ru.list = s.ru.list ∧ t.ru.mark = s.ru.mark ∧ t.dl = s.dl

/-- The items of a request are placed at the end of the write queue (R59). -/
def enqueue (items : List StoreItem) (s : State) : State := s.setSc { s.sc with queue := s.sc.queue ++ items }

/-- A log record is taken into the staging with the next index (R60, R159). -/
def stage (r : LogRecord) (s : State) : State := (s.setSc { s.sc with staging := s.sc.staging ++ [r] }).setDl s.dl.taken

/-- A slot write ends with the image, or what a loss of power left of it, in the store (R61, R63). -/
def land (item : StoreItem) (s : State) : State :=
  s.setSc { s.sc with store := writeSlot s.sc.store item, inFlight := none }

/-- CD takes a next record's status and RU appends the record (R93). -/
def appendRecord (r : RevRecord) (s : State) : State := (applyStatus r s).setRu (s.ru.append r)

/-- CD takes a jump record's status and RU's list begins anew with the record (R95). -/
def jumpRecord (r : RevRecord) (s : State) : State :=
  (applyStatus r s).setRu { s.ru with list := [r], base := r.seq - 1, mark := r.seq }

/-- The image, the list and the indices of the store work, before its writes are placed (R187). -/
def rebuilt (s : State) : State :=
  let ru := rebuildRevocations s.sc.store s.ru
  ((s.setCd { s.cd with image := reconcile ru.list (loadDirectory s.sc.store s.cd.image).1 }).setRu ru).setDl
    (scanLog s.sc.store)

/-- One change of the store group, by the operation that makes it. -/
inductive StoreOp : State → State → Prop
  | still {s t : State} (h : Still s t) : StoreOp s t
  | enqueue {s : State} (items : List StoreItem) (room : s.sc.queue.length + items.length ≤ 16)
      (fit : ∀ i ∈ items, i.bytes.length = i.slot.size) : StoreOp s (enqueue items s)
  | stage {s : State} (r : LogRecord) (room : s.sc.staging.length < 8) (left : s.dl.next < 4294967295) : StoreOp s (stage r s)
  | beginWrite (s : State) : StoreOp s (beginWrite s)
  | land (item : StoreItem) (s : State) : StoreOp s (land item s)
  | countUsage (card : Word32) (s : State) : StoreOp s (countUsage card s)
  | zeroUsage (s : State) : StoreOp s (zeroUsage s)
  | replaceEntry {s : State} {e : DirEntry} {slot : Nat} {w : DirWay} (found : lookupCard e.card s = some (slot, w)) :
      StoreOp s (setWay slot { w with entry := e.withStatus w.entry.blocked } s)
  | createEntry {s : State} {e : DirEntry} {slot : Nat} (absent : lookupCard e.card s = none)
      (free : emptyWay (bucketOf e.card) s = some slot) :
      StoreOp s (setWay slot ⟨e.withStatus (statusAtCreation e.card s), 0⟩ s)
  | dropEntry (slot : Nat) (s : State) : StoreOp s (s.setCd { s.cd with image := Sparse.del slot s.cd.image })
  | appendRecord {s : State} {r : RevRecord} (next : r.seq = s.ru.mark + 1) : StoreOp s (appendRecord r s)
  | jumpRecord {s : State} {r : RevRecord} (ahead : s.ru.mark < r.seq) : StoreOp s (jumpRecord r s)
  | rebuilt (s : State) : StoreOp s (rebuilt s)
  | coldBlocks (s : State) : StoreOp s (coldBlocks s)
  | warmBlocks (s : State) : StoreOp s (warmBlocks s)
  | enterSafe (s : State) : StoreOp s (enterSafe s)

/-- A run of such changes. -/
def StoreRun : State → State → Prop := Relation.ReflTransGen StoreOp

section
variable {b s t : State}

theorem StoreRun.refl (s : State) : StoreRun s s := Relation.ReflTransGen.refl

theorem StoreRun.op (h : StoreRun b s) (h' : StoreOp s t) : StoreRun b t := Relation.ReflTransGen.tail h h'

/-- What leaves the store group alone ends a run as well. -/
theorem StoreRun.still (h : StoreRun b s) (h' : Still s t) : StoreRun b t := h.op (.still h')

/-- What every change keeps, a run keeps. -/
theorem StoreRun.induction {P : State → Prop} (hop : ∀ {s t}, StoreOp s t → P s → P t) (h : StoreRun s t) (hs : P s) :
    P t := by
  induction h with
  | refl => exact hs
  | tail _ hlast ih => exact hop hlast ih

/-! ## The operations of the store group -/

theorem StoreRun.beginWrite (h : StoreRun b s) : StoreRun b (beginWrite s) := h.op (.beginWrite s)

theorem StoreRun.placeItems {items : List StoreItem} (h : StoreRun b s) (room : s.sc.queue.length + items.length ≤ 16)
    (fit : ∀ i ∈ items, i.bytes.length = i.slot.size) : StoreRun b (placeItems items s) :=
  (h.op (.enqueue items room fit)).beginWrite

theorem StoreRun.offerRecord (h : StoreRun b s) (c : Col) (e : Nat) (body : LogBody) : StoreRun b (offerRecord c e body s) := by
  rcases offerRecord_cases c e body s with ⟨room, left, heq⟩ | ⟨-, heq⟩ <;> rw [heq]
  · exact (h.op (.stage _ room left)).beginWrite
  · exact h.still (by simp [Still])

theorem dirSlotImage_length (image : List (Nat × DirWay)) (slot : Nat) : (dirSlotImage image slot).length = 16 := by
  unfold dirSlotImage
  split
  · exact dirEntry_image_length _
  · rfl

theorem StoreRun.placeHeld (l : List Nat) (h : StoreRun b s) : StoreRun b (placeHeld l s) := by
  induction l generalizing s with
  | nil => exact h.still (by simp [placeHeld, Still])
  | cons slot rest ih =>
    rw [Machine.placeHeld]
    split
    · rename_i room
      refine ih (h.placeItems (of_decide_eq_true room) fun i hi => ?_)
      rw [List.mem_singleton.1 hi]
      exact dirSlotImage_length _ _
    · exact h.still (by simp [Still])

theorem StoreRun.putEntry {slot : Nat} {w : DirWay} (h : StoreRun b (setWay slot w s))
    (room : queueHasRoom 1 s = true) : StoreRun b (putEntry slot w s) := by
  refine h.placeItems (by simpa [queueHasRoom, queuePlaces] using room) fun i hi => ?_
  rw [List.mem_singleton.1 hi]
  exact dirEntry_image_length _

theorem StoreRun.putCard (h : StoreRun b s) (e : DirEntry) : StoreRun b (putCard e s).2 := by
  unfold Machine.putCard
  split
  · rename_i found
    unfold replaceEntry
    split_ifs with same room
    · exact h
    · exact (h.op (.replaceEntry found)).putEntry room
    · exact h
  · rename_i absent
    unfold createEntry
    split
    · exact h.still (by simp [Still])
    · rename_i free
      split_ifs with room
      · exact (h.op (.createEntry absent free)).putEntry room
      · exact h

theorem StoreRun.dropCard (h : StoreRun b s) (card : Word32) : StoreRun b (dropCard card s).2 := by
  unfold Machine.dropCard
  split
  · exact h
  · split_ifs with room
    · refine (h.op (.dropEntry _ s)).placeItems (by simpa [queueHasRoom, queuePlaces] using room) fun i hi => ?_
      rw [List.mem_singleton.1 hi]
      rfl
    · exact h

theorem StoreRun.dirResult {f : RxFrame} {r : RequestResult × State} (h : StoreRun b r.2) : StoreRun b (dirResult f r) := by
  unfold Machine.dirResult
  split
  · exact h.still (by simp [Still])
  · exact h

theorem StoreRun.takeDirPut (h : StoreRun b s) (f : RxFrame) : StoreRun b (takeDirPut f s) := by
  unfold Machine.takeDirPut
  split
  · exact (h.putCard _).dirResult
  · exact h

theorem StoreRun.takeDirDrop (h : StoreRun b s) (f : RxFrame) : StoreRun b (takeDirDrop f s) := by
  unfold Machine.takeDirDrop
  split
  · exact (h.dropCard _).dirResult
  · exact h

theorem StoreRun.completeWrite (h : StoreRun b s) (item : StoreItem) : StoreRun b (completeWrite item s) :=
  (((h.op (.land item s)).still (t := count .storeWrites 1 (land item s)) (by simp [Still])).beginWrite).placeHeld _

theorem StoreRun.storeWork (h : StoreRun b s) : StoreRun b (storeWork s) := (h.op (.rebuilt s)).placeHeld _

/-! ## Grants, cards and columns -/

theorem StoreRun.grantEnded (h : StoreRun b s) (c : Col) (r : EndReason) : StoreRun b (grantEnded c r s) := by
  unfold Machine.grantEnded
  split
  · exact h
  · rename_i g _
    exact (h.offerRecord c (s.fe.get c).e (.grantEnd g.card g.done r)).still (by simp [Still])

theorem StoreRun.endGrant (h : StoreRun b s) (c : Col) (r : EndReason) : StoreRun b (endGrant c r s) := by
  simp only [Machine.endGrant]
  split <;> exact (h.grantEnded c r).still (by simp [Still])

theorem StoreRun.curtail (h : StoreRun b s) (c : Col) (r : EndReason) : StoreRun b (curtail c r s) := by
  simp only [Machine.curtail]
  split
  · exact h.endGrant c r
  · split
    · exact h.still (by simp [Still])
    · exact h
  all_goals exact h

theorem StoreRun.classReport (h : StoreRun b s) (c : Col) (k : FillClass) : StoreRun b (classReport c k s) := by
  have hclass : StoreRun b (storeClass c k s) := h.still (by simp [Still])
  simp only [Machine.classReport]
  split
  case h_4 | h_5 => exact hclass.curtail c _
  all_goals exact hclass.still (by simp [Still])

theorem StoreRun.takeClaim (h : StoreRun b s) (c : Col) (round : Word16) : StoreRun b (takeClaim c round s) := by
  have hround : StoreRun b (s.setCc c { s.cc.get c with waitingRound := some round }) := h.still (by simp [Still])
  simp only [Machine.takeClaim]
  split
  case h_3 | h_4 =>
    split
    · exact hround.curtail c _
    · exact h
  case h_1 | h_2 => exact h.still (by simp [Still])
  all_goals exact h

theorem StoreRun.reportClass (h : StoreRun b s) (c : Col) (k : FillClass) : StoreRun b (reportClass c k s) := by
  simp only [Machine.reportClass]
  split
  · exact h
  · exact (h.classReport c (s.fe.get c).cls).still (by simp [Still])

theorem StoreRun.fillReset (h : StoreRun b s) (c : Col) : StoreRun b (fillReset c s) :=
  (h.still (by simp [Still])).reportClass c _

theorem acceptanceReport_still (c : Col) (s : State) : Still s (acceptanceReport c s) := by simp [Still]

theorem StoreRun.acceptCandidate (h : StoreRun b s) (c : Col) (m : Nat) : StoreRun b (acceptCandidate c m s) := by
  have hfe (x : Fe) : StoreRun b (recomputeFe c x s) := h.still (by simp [Still])
  exact ((hfe _).reportClass c _).still (acceptanceReport_still c _)

theorem occur_still (k : Cond) (c : Col) (s : State) : Still s (occur k c s) := by simp [Still]

theorem StoreRun.inferEmptying (h : StoreRun b s) (c : Col) (m : Nat) : StoreRun b (inferEmptying c m s) := by
  have haccepted (x : Fe) (y : Cc) : StoreRun b (((Machine.acceptCandidate c m s).setFe c x).setCc c y) :=
    (h.acceptCandidate c m).still (by simp [Still])
  exact ((haccepted _ _).offerRecord c _ _).still (occur_still .unseenEmptying 0 _)

theorem StoreRun.validReading (h : StoreRun b s) (c : Col) (r : Nat) : StoreRun b (validReading c r s) := by
  have hlow (x y : Fe) : StoreRun b ((lower .echoFail c (s.setFe c x)).setFe c y) := h.still (by simp [Still])
  simp only [Machine.validReading]
  split_ifs
  · exact hlow _ _
  · exact (hlow _ _).inferEmptying c _
  · exact (hlow _ _).acceptCandidate c _

theorem StoreRun.takeEchoResult (h : StoreRun b s) (c : Col) (r : EchoResult) (c10 : Nat) :
    StoreRun b (takeEchoResult c r c10 s) := by
  unfold Machine.takeEchoResult
  split
  · exact h.validReading c _
  · exact h.still (by simp [Still])

theorem StoreRun.endMeasurement (h : StoreRun b s) (m : Measurement) (r : EchoResult) : StoreRun b (endMeasurement m r s) :=
  (h.takeEchoResult m.cont r m.c10).still (by simp [Still, Machine.endMeasurement])

theorem StoreRun.countUsage (h : StoreRun b s) (card : Word32) : StoreRun b (countUsage card s) := h.op (.countUsage card s)

theorem StoreRun.countCycle (h : StoreRun b s) (c : Col) : StoreRun b (countCycle c s) := by
  have hau (x : Au) : StoreRun b (s.setAu c x) := h.still (by simp [Still])
  simp only [Machine.countCycle]
  split
  · exact h
  · split
    · exact (hau _).countUsage _
    · exact hau _

theorem StoreRun.completeCycle (h : StoreRun b s) (c : Col) : StoreRun b (completeCycle c s) := by
  have hfe : StoreRun b (feDeposit c (count (.deposits c) 1
      (s.setCc c { s.cc.get c with depositsE := min 65535 ((s.cc.get c).depositsE + 1) }))) := h.still (by simp [Still])
  exact hfe.countCycle c

theorem StoreRun.decideClosing (h : StoreRun b s) (c : Col) (cycle full : Bool) : StoreRun b (decideClosing c cycle full s) := by
  unfold Machine.decideClosing
  split
  · exact h.endGrant c _
  · split_ifs
    · exact h.endGrant c _
    · exact h.endGrant c _
    · exact h.still (by simp [Still])

theorem StoreRun.endOpening (h : StoreRun b s) (c : Col) : StoreRun b (endOpening c s) := by
  simp only [Machine.endOpening]
  split
  · exact (h.completeCycle c).decideClosing c _ _
  · exact h.decideClosing c _ _

theorem StoreRun.drumClosedEvent (h : StoreRun b s) (c : Col) : StoreRun b (drumClosedEvent c s) := by
  have hshut : StoreRun b (lower .drumHeld c (s.setCc c (s.cc.get c).drumShut)) := h.still (by simp [Still])
  simp only [Machine.drumClosedEvent]
  split
  · exact hshut.endOpening c
  · exact hshut.still (by simp [Still])
  all_goals exact hshut

theorem StoreRun.liftContainer (h : StoreRun b s) (c : Col) : StoreRun b (liftContainer c s) := by
  have hended : StoreRun b (if (s.cc.get c).state = .granted ∨ (s.cc.get c).state = .depositing
      then Machine.grantEnded c .lifted s else s) := by
    split
    · exact h.grantEnded c _
    · exact h
  simp only [Machine.liftContainer]
  split <;> exact hended.still (by simp [Still])

theorem euAbsent_still (c : Col) (s : State) : Still s (euAbsent c s) := by simp [Still]

theorem StoreRun.containerAbsentEvent (h : StoreRun b s) (c : Col) : StoreRun b (containerAbsentEvent c s) := by
  have habsent (x : Cc) : StoreRun b (s.setCc c x) := h.still (by simp [Still])
  simp only [Machine.containerAbsentEvent]
  split
  case h_1 | h_2 => exact h.still (by simp [Still])
  all_goals exact ((habsent _).liftContainer c).still (euAbsent_still c _)

theorem StoreRun.returnContainer (h : StoreRun b s) (c : Col) : StoreRun b (returnContainer c s) := by
  have hcleared : StoreRun b (lower .unclaimedLift c (lower .containerMissing c
      (Machine.offerRecord c 0 (emptiedBody (s.cc.get c)) s))) :=
    (h.offerRecord c 0 (emptiedBody (s.cc.get c))).still (by simp [Still])
  exact (hcleared.fillReset c).still (by simp [Still, Machine.returnContainer])

theorem StoreRun.containerPresentEvent (h : StoreRun b s) (c : Col) : StoreRun b (containerPresentEvent c s) := by
  have hpresent (x : Cc) : StoreRun b (s.setCc c x) := h.still (by simp [Still])
  simp only [Machine.containerPresentEvent]
  split
  case h_1 | h_2 => exact (hpresent _).returnContainer c
  all_goals exact hpresent _

theorem StoreRun.inputEvent (h : StoreRun b s) (c : Col) (l : InputLevel) : StoreRun b (inputEvent c s l) := by
  unfold Machine.inputEvent
  split
  · exact h.still (by simp [Still])
  · exact h.drumClosedEvent c
  · exact h.still (by simp [Still])
  · exact h.containerAbsentEvent c
  · exact h.containerPresentEvent c

theorem StoreRun.inputChange (h : StoreRun b s) (c : Col) (l : InputLevel) : StoreRun b (inputChange c l s) := by
  unfold Machine.inputChange
  split_ifs
  · exact h
  · exact h.inputEvent c l
  · exact h.still (by simp [Still])
  · exact h

theorem StoreRun.inputSettles (h : StoreRun b s) (c : Col) (l : InputLevel) : StoreRun b (inputSettles c l s) := by
  unfold Machine.inputSettles
  split_ifs
  · exact h
  · exact h.still (by simp [Still])
  · exact h.inputEvent c l
  · exact h.still (by simp [Still])
  · exact h

theorem StoreRun.confirmationExpires (h : StoreRun b s) (c : Col) : StoreRun b (confirmationExpires c s) := by
  have hraised : StoreRun b (raise .lockFault c (s.setCc c { s.cc.get c with confirm := .stoppedAt confirmLimit })) :=
    h.still (by simp [Still])
  simp only [Machine.confirmationExpires]
  split
  case h_4 => exact (hraised.grantEnded c .window).still (by simp [Still, failGrant])
  all_goals exact hraised.still (by simp [Still])

theorem StoreRun.refuse (h : StoreRun b s) (c : Col) (cause : IndCode) (card : Option Word32) (target : Option Target) :
    StoreRun b (refuse c cause card target s) := by
  simp only [Machine.refuse]
  refine StoreRun.offerRecord ?_ c _ _
  split <;> exact h.still (by simp [Still])

theorem StoreRun.refuseClosed (h : StoreRun b s) (c : Col) (card : Word32) : StoreRun b (refuseClosed c card s) := by
  unfold Machine.refuseClosed
  split <;> exact h.refuse c _ _ _

theorem StoreRun.refuseFor (h : StoreRun b s) (c : Col) (cause : IndCode) (card : Word32) :
    StoreRun b (refuseFor c cause card s) := by
  unfold Machine.refuseFor
  split
  · exact h.refuseClosed c card
  all_goals exact h.refuse c _ _ _

theorem StoreRun.present (h : StoreRun b s) (c : Col) (card : Word32) (issue : Byte) (bad : Bool) :
    StoreRun b (present c card issue bad s) := by
  have hcounted : StoreRun b (count .cardsPresented 1 s) := h.still (by simp [Still])
  simp only [Machine.present]
  split
  · split
    · exact hcounted.still (by simp [Still])
    · exact hcounted
  · split
    · exact hcounted.refuseFor c _ card
    · exact hcounted.still (by simp [Still])

theorem StoreRun.cardReadTaken (h : StoreRun b s) (c : Col) (card : Word32) (issue : Byte) (bad : Bool) :
    StoreRun b (cardReadTaken c card issue bad s) := by
  unfold Machine.cardReadTaken
  split_ifs
  · exact h.present c card issue bad
  · exact h.still (by simp [Still])
  · exact h

theorem StoreRun.repeatTaken (h : StoreRun b s) (c : Col) : StoreRun b (repeatTaken c s) := by
  unfold Machine.repeatTaken
  split
  · exact h.still (by simp [Still, repeatLast])
  · exact h

theorem StoreRun.answerRequest (h : StoreRun b s) (c : Col) (g : Grant) : StoreRun b (answerRequest c g s) := by
  have hissued (x : Au) (i : Indication) : StoreRun b (indicate c i (count .grants 1 ((takeGrant c s).setAu c x))) :=
    h.still (by simp [Still])
  have hcleared (x : Au) : StoreRun b (s.setAu c x) := h.still (by simp [Still])
  unfold Machine.answerRequest
  split
  · simp only [issueGrant]
    split
    · exact (hissued _ _).curtail c _
    · exact hissued _ _
  · exact (hcleared _).refuseClosed c _

/-! ## Revocations, time and beacons -/

theorem StoreRun.blockCard (h : StoreRun b s) (card : Word32) : StoreRun b (blockCard card s) := by
  unfold Machine.blockCard
  split
  · exact h
  · split
    · exact h
    · split
      · exact h.curtail _ _
      · exact h.still (by simp [Still])

theorem StoreRun.announceRecord (h : StoreRun b s) (r : RevRecord) : StoreRun b (announceRecord r s) := by
  have hblocked : StoreRun b (if r.block then Machine.blockCard r.card s else s) := by
    split
    · exact h.blockCard r.card
    · exact h
  exact hblocked.still (by simp [Still, Machine.announceRecord])


/-- Sending, wanting and ending pulls leaves RU's list and mark alone. -/
theorem testPull_still (s : State) : Still s (testPull s) := by
  simp only [testPull]
  (repeat' split) <;> simp [Still, sendPull]

theorem Still.trans {u : State} (h : Still s t) (h' : Still t u) : Still s u := by
  simp_all [Still]

theorem wantPull_still (target : PullTarget) (w : Nat) (s : State) : Still s (wantPull target w s) :=
  Still.trans (by simp [Still]) (testPull_still _)

theorem endPull_still (s : State) : Still s (endPull s) := Still.trans (by simp [Still]) (testPull_still _)

theorem advance_still (s : State) (d : Nat) : Still s (s.advance d) := by
  have hru : (s.advance d).ru.list = s.ru.list ∧ (s.advance d).ru.mark = s.ru.mark := by
    unfold State.advance
    split <;> exact ⟨rfl, rfl⟩
  simp [Still, hru]

theorem entryItems_fit (r : RevRecord) (s : State) : ∀ i ∈ entryItems r s, i.bytes.length = i.slot.size := by
  unfold entryItems
  split
  · intro i hi
    rw [List.mem_singleton.1 hi]
    exact dirEntry_image_length _
  · simp

theorem group_fit (r : RevRecord) (s : State) : ∀ i ∈ recordItem r :: entryItems r s, i.bytes.length = i.slot.size := by
  rintro i (_ | ⟨_, hi⟩)
  · exact revRecord_image_length r
  · exact entryItems_fit r s i hi

/-- What a record brings after the list has taken it leaves the list, the mark and the image alone. -/
theorem StoreRun.endReachedWant (h : StoreRun b s) : StoreRun b (endReachedWant (clearReachedGap s)) := by
  refine h.still ?_
  unfold Machine.endReachedWant clearReachedGap clearGap
  (repeat' split) <;> simp [Still]

theorem StoreRun.applyNext {r : RevRecord} (h : StoreRun b s) (f : RxFrame) (next : r.seq = s.ru.mark + 1) :
    StoreRun b (applyNext f r s) := by
  simp only [Machine.applyNext]
  split
  · rename_i room
    have hplaced : StoreRun b (Machine.placeItems (recordItem r :: entryItems r s) s) :=
      h.placeItems (of_decide_eq_true room) (group_fit r s)
    have happended : StoreRun b (appendRecord r (Machine.placeItems (recordItem r :: entryItems r s) s)) :=
      hplaced.op (.appendRecord (by simpa using next))
    exact ((happended.still (by simp [Still, appendRecord])).announceRecord r).endReachedWant
  · exact h.still (wantPull_still _ _ s)

theorem endedByJump_still (s : State) : Still s ((clearGap s).setRu { (clearGap s).ru with wanted := none }) := by
  simp [Still, clearGap]

theorem StoreRun.applyJump {r : RevRecord} (h : StoreRun b s) (f : RxFrame) (ahead : s.ru.mark < r.seq) :
    StoreRun b (applyJump f r s) := by
  simp only [Machine.applyJump]
  split
  · rename_i room
    have hplaced : StoreRun b (Machine.placeItems
        (⟨.rev 64, baseImage (r.seq - 1)⟩ :: recordItem r :: entryItems r s) s) := by
      refine h.placeItems (of_decide_eq_true room) ?_
      rintro i (_ | ⟨_, hi⟩)
      · exact baseImage_length _
      · exact group_fit r s i hi
    have hjumped : StoreRun b (jumpRecord r (Machine.placeItems
        (⟨.rev 64, baseImage (r.seq - 1)⟩ :: recordItem r :: entryItems r s) s)) :=
      hplaced.op (.jumpRecord (by simpa using ahead))
    exact ((hjumped.still (by simp [Still, jumpRecord])).announceRecord r).still (endedByJump_still _)
  · exact h.still (wantPull_still _ _ s)

theorem StoreRun.takeRecord (h : StoreRun b s) (f : RxFrame) (jump : Bool) (r : RevRecord) :
    StoreRun b (takeRecord f jump r s) := by
  unfold Machine.takeRecord
  split_ifs with old hjump next
  · exact h
  · exact h.applyJump f (by omega)
  · exact h.applyNext f next
  · exact h.still (wantPull_still _ _ s)

theorem StoreRun.takeRecords (h : StoreRun b s) (f : RxFrame) (jump : Bool) (l : List (Option RevRecord)) :
    StoreRun b (takeRecords f jump l s) := by
  induction l generalizing s jump with
  | nil => exact h
  | cons r l ih =>
    cases r with
    | none => exact h
    | some r => exact ih (h.takeRecord f jump r) false

theorem StoreRun.takePush (h : StoreRun b s) (f : RxFrame) : StoreRun b (takePush f s) := by
  simp only [Machine.takePush]
  split_ifs
  · exact (h.takeRecords f _ _).still (endPull_still _)
  · exact h.takeRecords f _ _
  · exact h

theorem StoreRun.takePull (h : StoreRun b s) (f : RxFrame) : StoreRun b (takePull f s) := by
  unfold Machine.takePull servedPull
  split
  · refine h.still ?_
    split_ifs <;> simp [Still]
  · exact h

theorem StoreRun.takeGap (h : StoreRun b s) (f : RxFrame) : StoreRun b (takeGap f s) := by
  have hnoted (g : Nat) : StoreRun b (noteGap g s) := by
    simp only [noteGap]
    split
    · exact h.still (by simp [Still])
    · exact h
  unfold Machine.takeGap
  split
  · exact (hnoted _).still (endPull_still _)
  · exact h

theorem StoreRun.evaluatePeriod (h : StoreRun b s) : StoreRun b (evaluatePeriod s) := by
  have hperiod (x : Tu) : StoreRun b (s.setTu x) := h.still (by simp [Still])
  unfold Machine.evaluatePeriod
  split
  · exact (hperiod _).op (.zeroUsage _)
  · exact h

theorem StoreRun.setClock (h : StoreRun b s) (clock : Word32) (hops : Nat) : StoreRun b (setClock clock hops s) :=
  StoreRun.evaluatePeriod (h.still (by simp [Still]))

theorem StoreRun.takeTime (h : StoreRun b s) (f : RxFrame) : StoreRun b (takeTime f s) := by
  unfold Machine.takeTime
  split
  · exact h.setClock _ _
  · exact h

theorem StoreRun.adoptTime (h : StoreRun b s) (clock : Word32) (hops : Nat) : StoreRun b (adoptTime clock hops s) := by
  unfold Machine.adoptTime
  split_ifs
  · exact h.setClock _ _
  · exact h.setClock _ _
  · exact h

theorem handMark_still (a mark : Nat) (s : State) : Still s (handMark a mark s) := by
  unfold handMark
  split
  · exact wantPull_still _ _ s
  · simp [Still]

theorem StoreRun.takeBeacon (h : StoreRun b s) (f : RxFrame) : StoreRun b (takeBeacon f s) := by
  have htable : StoreRun b (takeIntoTable f s) := h.still (by simp [Still])
  unfold Machine.takeBeacon
  split
  · exact (htable.adoptTime _ _).still (handMark_still _ _ _)
  · exact h

/-! ## Rounds and requests -/

theorem StoreRun.answerClaim (h : StoreRun b s) (f : RxFrame) : StoreRun b (answerClaim f s) := by
  have hdecided : StoreRun b (decideClaim f s).2 := by
    simp only [decideClaim]
    split_ifs
    · exact h
    · exact h.takeClaim _ _
    · exact h
  simp only [Machine.answerClaim]
  split_ifs
  · exact h
  · exact hdecided.still (by simp [Still, claimReply])
  · exact h.still (by simp [Still, noContainerReply])

theorem StoreRun.answerRelease (h : StoreRun b s) (f : RxFrame) : StoreRun b (answerRelease f s) := by
  unfold Machine.answerRelease
  split_ifs
  · exact h
  all_goals exact h.still (by simp [Still, claimReply, noContainerReply])

theorem StoreRun.takeRollcall (h : StoreRun b s) (f : RxFrame) : StoreRun b (takeRollcall f s) := by
  simp only [Machine.takeRollcall]
  split <;> exact h.still (by simp [Still, openWindow])

theorem answerSubject_still (f : RxFrame) (k : Subject) (args : List Byte) (s : State) :
    Still s (answerSubject f k args s) := by
  unfold answerSubject
  split <;> simp [Still, queryReply, emptyPending]

theorem StoreRun.takeQuery (h : StoreRun b s) (f : RxFrame) : StoreRun b (takeQuery f s) := by
  unfold Machine.takeQuery takeSubject
  split
  · exact h.still (by simp [Still, queryReply])
  · split
    · split
      · exact h.still (answerSubject_still _ _ _ s)
      · exact h.still (by simp [Still, queryReply])
    · exact h.still (by simp [Still, queryReply])

theorem requestedSnapshot_still (s : State) : Still s (requestedSnapshot s) := by
  simp only [requestedSnapshot]
  split <;> simp [Still]

theorem StoreRun.takeSnapshot (h : StoreRun b s) (f : RxFrame) : StoreRun b (takeSnapshot f s) := by
  simp only [Machine.takeSnapshot]
  split
  · exact (h.still (requestedSnapshot_still s)).still (by simp [Still])
  · exact h

/-! ## Starts -/

theorem StoreRun.resetBlocks (h : StoreRun b s) : StoreRun b (resetBlocks s) := by
  unfold Machine.resetBlocks
  split
  · exact h.op (.coldBlocks s)
  · exact h.op (.warmBlocks s)

theorem beginWork_still (s : State) : Still s (beginWork s) := ⟨rfl, rfl, rfl, rfl, rfl, rfl, rfl, rfl⟩

theorem StoreRun.afterDeparture (h : StoreRun b s) (f : TxFrame) : StoreRun b (afterDeparture f s) := by
  unfold Machine.afterDeparture
  split
  · exact h.resetBlocks.still (beginWork_still _)
  · exact h

theorem StoreRun.takeRestart (h : StoreRun b s) (f : RxFrame) : StoreRun b (takeRestart f s) := by
  have hoffered (g : TxFrame) : StoreRun b (offer g { s with restartPromised := true }) := h.still (by simp [Still])
  simp only [Machine.takeRestart, promiseRestart]
  split
  · split
    · exact h.still (by simp [Still])
    · split
      · exact (hoffered _).afterDeparture _
      all_goals exact hoffered _
  · exact h

theorem StoreRun.cutWrite (h : StoreRun b s) : StoreRun b (cutWrite s) := by
  unfold Machine.cutWrite
  split
  · exact h
  · rename_i item _
    exact (h.op (.land ⟨item.slot, _⟩ s)).still ⟨rfl, rfl, rfl, rfl, rfl, rfl, rfl, rfl⟩

theorem StoreRun.losePower (h : StoreRun b s) : StoreRun b (losePower s) :=
  (h.cutWrite.op (.coldBlocks _)).still ⟨rfl, rfl, rfl, rfl, rfl, rfl, rfl, rfl⟩

theorem StoreRun.startPowered (h : StoreRun b s) : StoreRun b (startPowered s) := by
  have hcold : StoreRun b ((coldBlocks s).setCl { (coldBlocks s).cl with powered := true }) :=
    (h.op (.coldBlocks s)).still (by simp [Still])
  simp only [Machine.startPowered]
  split
  · exact hcold
  · exact hcold.still (beginWork_still _)

theorem StoreRun.driveResetLow (h : StoreRun b s) : StoreRun b (driveResetLow s) := by
  simp only [Machine.driveResetLow]
  split
  · exact h.resetBlocks.still (by simp [Still])
  · exact h.still (by simp [Still])

theorem releaseReset_still (s : State) : Still s (releaseReset s) := by
  simp only [releaseReset]
  split
  · exact Still.trans (by simp [Still]) (beginWork_still _)
  · simp [Still]

theorem enterRun_still (s : State) : Still s (enterRun s) := by
  rw [FillProofs.enterRun_eq]
  have hreport := FillProofs.entryReports_report (FillProofs.entryBase s)
  have hblocks := hreport.blocks
  have : Still s (FillProofs.entryReports (FillProofs.entryBase s)) := by
    rw [hblocks]
    exact ⟨rfl, rfl, rfl, rfl, rfl, rfl, rfl, rfl⟩
  exact this.trans (by simp [Still, FillProofs.forgetDue])

/-! ## Frames -/

/-- The state that the receive checks leave, stopped or dispatched. -/
def Verdict.after : Verdict → State
  | .stopped t | .dispatched t => t

/-- The seven checks change nothing of the store group, whatever they decide (R107 to R111). -/
theorem receiveFrame_still (k : Byte) (f : RxFrame) (s : State) : Still s (Verdict.after (receiveFrame k f s)) := by
  simp only [receiveFrame, checkHeader, checkSix]
  repeat' split
  all_goals simp [Still, Verdict.after]

theorem StoreRun.withFrame (h : StoreRun b s) (k : Kind) (f : RxFrame) {owner : RxFrame → State → State}
    (howner : ∀ {t}, StoreRun b t → StoreRun b (owner f t)) : StoreRun b (withFrame k f owner s) := by
  have hchecked := h.still (receiveFrame_still k.code f s)
  rcases withFrame_cases k f owner s with ⟨t, hv, heq⟩ | ⟨t, hv, heq⟩ <;> rw [heq] <;> rw [hv] at hchecked
  · exact hchecked
  · exact howner hchecked

theorem StoreRun.withQuery (h : StoreRun b s) (k : Subject) (f : RxFrame) : StoreRun b (withQuery k f s) :=
  h.withFrame .query _ fun ht => ht.takeQuery _

theorem StoreRun.ownerOf (h : StoreRun b s) (k : Kind) (f : RxFrame) : StoreRun b (ownerOf k f s) := by
  cases k with
  | beacon => exact h.takeBeacon f
  | revokePull => exact h.takePull f
  | revokePush => exact h.takePush f
  | revokeGap => exact h.takeGap f
  | time => exact h.takeTime f
  | dirPut => exact h.takeDirPut f
  | dirDrop => exact h.takeDirDrop f
  | rollcall => exact h.takeRollcall f
  | claim => exact h.answerClaim f
  | release => exact h.answerRelease f
  | query => exact h.takeQuery f
  | snapshot => exact h.takeSnapshot f
  | restart => exact h.takeRestart f
  | alarm | dirResult | claimReply | queryReply | reply => exact h

theorem StoreRun.receiveRaw (h : StoreRun b s) (k : Byte) (f : RxFrame) : StoreRun b (receiveRaw k f s) := by
  have hchecked := h.still (receiveFrame_still k f s)
  unfold Machine.receiveRaw
  split <;> rename_i hv <;> rw [hv] at hchecked
  · exact hchecked
  · split
    · exact hchecked.ownerOf _ f
    · exact hchecked

/-! ## The line -/

theorem StoreRun.collide (h : StoreRun b s) (f : TxFrame) : StoreRun b (collide f s) := by
  have hleft (k : Counter) (x : Lc) : StoreRun b (count k 1 (count .collisions 1 (s.setLc x))) := h.still (by simp [Still])
  simp only [Machine.collide]
  split
  · exact h.still (by simp [Still])
  · exact (hleft _ _).afterDeparture _
  · exact (hleft _ _).afterDeparture _

theorem StoreRun.sent (h : StoreRun b s) (f : TxFrame) : StoreRun b (sent f s) :=
  StoreRun.afterDeparture (h.still (by simp [Still])) f

theorem StoreRun.deadlineExpires (h : StoreRun b s) (f : TxFrame) : StoreRun b (deadlineExpires f s) := by
  unfold Machine.deadlineExpires
  split
  · exact h.still (by simp [Still])
  · exact StoreRun.afterDeparture (h.still (by simp [Still])) f

end

/-! ## One command -/

/-- A command answers with the next state, and changes the store group by the operations above alone. -/
def Runs (s : State) (o : Host.Outcome State Fault Refusal) : Prop := ∃ t, o = .next t ∧ StoreRun s t

theorem runs_next {s t : State} (h : StoreRun s t) : Runs s (.next t) := ⟨t, rfl, h⟩

/-- What a command does after its time has passed. -/
theorem StoreRun.advance (s : State) (d : Nat) : StoreRun s (s.advance d) := (StoreRun.refl s).still (advance_still s d)

theorem StoreRun.ite {b t u : State} {p : Prop} [Decidable p] (ht : StoreRun b t) (hu : StoreRun b u) :
    StoreRun b (if p then t else u) := by
  split <;> assumption

/-- A command that leaves the store group alone when it is taken, and all but the time when it is not. -/
theorem StoreRun.iteStill {b t u : State} {p : Prop} [Decidable p] (hu : StoreRun b u) (ht : Still u t) :
    StoreRun b (if p then t else u) := (hu.still ht).ite hu

theorem execPowerOn_runs (d : Nat) (s : State) : Runs s (execPowerOn d s) :=
  runs_next (StoreRun.startPowered ((StoreRun.advance s d).losePower.ite (StoreRun.advance s d)))

theorem execStoreWriteComplete_runs (d : Nat) (s : State) : Runs s (execStoreWriteComplete d s) := by
  refine runs_next (StoreRun.ite ?_ (StoreRun.advance s d))
  split
  · exact (StoreRun.advance s d).completeWrite _
  · exact StoreRun.advance s d

theorem execConfigurationImageRead_runs (d : Nat) (l : List Byte) (s : State) : Runs s (execConfigurationImageRead d l s) := by
  have h := StoreRun.advance s d
  refine runs_next (StoreRun.ite (StoreRun.ite (h.still ?_) (h.op (.enterSafe _))) h)
  exact ⟨rfl, rfl, rfl, rfl, rfl, rfl, rfl, rfl⟩

theorem execStartingStoreWork_runs (d : Nat) (s : State) : Runs s (execStartingStoreWork d s) :=
  runs_next (((StoreRun.advance s d).still (by simp [Still])).storeWork.ite (StoreRun.advance s d))

theorem execContainerStateDerivation_runs (d : Nat) (s : State) : Runs s (execContainerStateDerivation d s) := by
  have h := StoreRun.advance s d
  have hderived : StoreRun s (deriveStates (s.advance d)) := h.still ⟨rfl, rfl, rfl, rfl, rfl, rfl, rfl, rfl⟩
  exact runs_next ((hderived.still (enterRun_still _)).ite h)

/-- The measurements end or move on (R28, R29). -/
theorem execMeasurement_runs (d : Nat) (above : Bool) (s : State) :
    Runs s (execBurstEnd d s) ∧ Runs s (execBlankEnd d above s) ∧ Runs s (execEchoRise d s) ∧ Runs s (execListenEnd d s) := by
  have h := StoreRun.advance s d
  refine ⟨runs_next ?_, runs_next ?_, runs_next ?_, runs_next ?_⟩
  · split
    · exact h.still (by simp [Still])
    · exact h
  · split
    · exact (h.endMeasurement _ _).ite (h.still (by simp [Still]))
    · exact h
  · split
    · exact (h.endMeasurement _ _).ite h
    · exact h
  · split
    · exact h.endMeasurement _ _
    · exact h

theorem execReaderMessageDiscarded_runs (d : Nat) (c : Col) (l : List Byte) (s : State) :
    Runs s (execReaderMessageDiscarded d c l s) := by
  have h := StoreRun.advance s d
  refine runs_next ?_
  split
  · exact h
  · exact h.cardReadTaken c _ _ _
  · exact h.repeatTaken c

theorem execGrantRequest_runs (d : Nat) (c : Col) (s : State) : Runs s (execGrantRequest d c s) := by
  have h := StoreRun.advance s d
  refine runs_next (StoreRun.ite ?_ h)
  split
  · exact h.ite (h.answerRequest c _)
  · exact h

theorem execClockSecond_runs (d : Nat) (s : State) : Runs s (execClockSecond d s) := by
  have h := StoreRun.advance s d
  have hticked : StoreRun s (tickClock (s.advance d)) := h.still (by simp [Still, tickClock])
  exact runs_next ((hticked.evaluatePeriod.ite hticked).ite h)

theorem execFrameNotDispatched_runs (d : Nat) (f : RawFrame) (s : State) : Runs s (execFrameNotDispatched d f s) := by
  have h := StoreRun.advance s d
  exact runs_next (((h.receiveRaw _ _).ite (h.still (by simp [Still]))).ite h)

/-- The commands of the access to the line (R117 to R120). -/
theorem execAccess_runs (d : Nat) (s : State) :
    Runs s (execClassGapReached d s) ∧ Runs s (execBackoffSlotEnd d s) ∧ Runs s (execCollision d s) ∧
    Runs s (execTransmissionComplete d s) := by
  have h := StoreRun.advance s d
  refine ⟨runs_next ?_, runs_next ?_, runs_next ?_, runs_next ?_⟩
  · split
    · exact h.iteStill (by simp [Still])
    · exact h
  · split
    · exact h.iteStill (by simp [Still])
    · exact h
  · split
    · exact h.collide _
    · exact h
  · split
    · exact h.sent _
    · exact h

theorem execReplyDeadlineExpiry_runs (d n : Nat) (s : State) : Runs s (execReplyDeadlineExpiry d n s) := by
  have h := StoreRun.advance s d
  refine runs_next ?_
  split
  · exact (h.deadlineExpires _).ite h
  · exact h

theorem execTemperatureRead_runs (d : Nat) (v : Option Int) (s : State) : Runs s (execTemperatureRead d v s) := by
  have h := StoreRun.advance s d
  refine runs_next ?_
  split
  · exact h.iteStill (by simp [Still])
  · exact h

theorem execRollcallSlotTime_runs (d : Nat) (s : State) : Runs s (execRollcallSlotTime d s) := by
  have h := StoreRun.advance s d
  refine runs_next ?_
  split
  · exact h
  · split
    · exact h
    · exact h.iteStill (by simp [Still])

theorem execBeaconHoldoffExpiry_runs (d : Nat) (s : State) : Runs s (execBeaconHoldoffExpiry d s) := by
  have h := StoreRun.advance s d
  refine runs_next (h.iteStill ?_)
  simp only [holdoffExpires]
  split <;> simp [Still]

/-- Every command changes the store group by the operations of `StoreOp` alone. -/
theorem exec_runs (i : Instr) (s : State) : Runs s (exec i s) := by
  cases i with
  | powerOn d => exact execPowerOn_runs d s
  | lossOfPower d => exact runs_next ((StoreRun.advance s d).losePower.ite (StoreRun.advance s d))
  | resetNLow d => exact runs_next ((StoreRun.advance s d).ite (StoreRun.advance s d).driveResetLow)
  | resetNHigh d => exact runs_next ((StoreRun.advance s d).iteStill (releaseReset_still _))
  | configurationImageRead d l => exact execConfigurationImageRead_runs d l s
  | startingStoreWork d => exact execStartingStoreWork_runs d s
  | inputLevelSettled d c level => exact runs_next ((StoreRun.advance s d).inputSettles c level)
  | containerStateDerivation d => exact execContainerStateDerivation_runs d s
  | drumOpen d c | drumClosed d c | lockSenseEngaged d c | lockSenseReleased d c | containerAbsent d c | containerPresent d c =>
    exact runs_next ((StoreRun.advance s d).inputChange c _)
  | confirmationTimerExpiry d c =>
    exact runs_next (((StoreRun.advance s d).confirmationExpires c).ite (StoreRun.advance s d))
  | drumHeldExpiry d c | liftLimitExpiry d c | holdTimerExpiry d c | euPeriodicTimerExpiry d c | settleTimerExpiry d c
  | returnTimerExpiry d c | indicationSendComplete d c =>
    exact runs_next ((StoreRun.advance s d).iteStill (by simp [Still, periodicExpires]))
  | cardRead d c card issue bad => exact runs_next ((StoreRun.advance s d).cardReadTaken c card issue bad)
  | repeatIndication d c => exact runs_next ((StoreRun.advance s d).repeatTaken c)
  | readerMessageDiscarded d c l => exact execReaderMessageDiscarded_runs d c l s
  | grantRequest d c => exact execGrantRequest_runs d c s
  | windowTimerExpiry d c => exact runs_next (((StoreRun.advance s d).endGrant c _).ite (StoreRun.advance s d))
  | burstEnd d => exact (execMeasurement_runs d true s).1
  | blankEnd d above => exact (execMeasurement_runs d above s).2.1
  | echoRise d => exact (execMeasurement_runs d true s).2.2.1
  | listenEnd d => exact (execMeasurement_runs d true s).2.2.2
  | temperatureRead d v => exact execTemperatureRead_runs d v s
  | storeWriteComplete d => exact execStoreWriteComplete_runs d s
  | dirPut d f => exact runs_next ((StoreRun.advance s d).withFrame _ f fun h => h.takeDirPut f)
  | dirDrop d f => exact runs_next ((StoreRun.advance s d).withFrame _ f fun h => h.takeDirDrop f)
  | revokePush d f => exact runs_next ((StoreRun.advance s d).withFrame _ f fun h => h.takePush f)
  | revokePull d f => exact runs_next ((StoreRun.advance s d).withFrame _ f fun h => h.takePull f)
  | revokeGap d f => exact runs_next ((StoreRun.advance s d).withFrame _ f fun h => h.takeGap f)
  | pullHoldoffExpiry d =>
    exact runs_next ((StoreRun.advance s d).iteStill (Still.trans (by simp [Still]) (testPull_still _)))
  | pullOutstandingTimeout d => exact runs_next ((StoreRun.advance s d).iteStill (endPull_still _))
  | timeFrame d f => exact runs_next ((StoreRun.advance s d).withFrame _ f fun h => h.takeTime f)
  | beacon d f => exact runs_next ((StoreRun.advance s d).withFrame _ f fun h => h.takeBeacon f)
  | rollcall d f => exact runs_next ((StoreRun.advance s d).withFrame _ f fun h => h.takeRollcall f)
  | claim d f => exact runs_next ((StoreRun.advance s d).withFrame _ f fun h => h.answerClaim f)
  | release d f => exact runs_next ((StoreRun.advance s d).withFrame _ f fun h => h.answerRelease f)
  | queryAlarms d f | queryCounters d f | queryContainers d f | queryNeighbours d f | queryStatus d f | queryDirGet d f
  | queryLog d f => exact runs_next ((StoreRun.advance s d).withQuery _ f)
  | queryBadSubject d f => exact runs_next ((StoreRun.advance s d).withFrame _ f fun h => h.takeQuery f)
  | snapshot d f => exact runs_next ((StoreRun.advance s d).withFrame _ f fun h => h.takeSnapshot f)
  | restart d f => exact runs_next ((StoreRun.advance s d).withFrame _ f fun h => h.takeRestart f)
  | frameNotDispatched d f => exact execFrameNotDispatched_runs d f s
  | lineActivity d signal => exact runs_next ((StoreRun.advance s d).iteStill (by simp [Still]))
  | classGapReached d => exact (execAccess_runs d s).1
  | backoffSlotEnd d => exact (execAccess_runs d s).2.1
  | collision d => exact (execAccess_runs d s).2.2.1
  | transmissionComplete d => exact (execAccess_runs d s).2.2.2
  | replyDeadlineExpiry d n => exact execReplyDeadlineExpiry_runs d n s
  | silenceTimerExpiry d | rollcallWindowClose d | beaconPeriodicTimerExpiry d | neighbourAgeTick d | hopAgingExpiry d =>
    exact runs_next ((StoreRun.advance s d).iteStill (by simp [Still]))
  | rollcallSlotTime d => exact execRollcallSlotTime_runs d s
  | beaconHoldoffExpiry d => exact execBeaconHoldoffExpiry_runs d s
  | clockSecond d => exact execClockSecond_runs d s
  | reportTimerExpiry d => exact runs_next ((StoreRun.advance s d).iteStill (requestedSnapshot_still _))

/-- Every step changes the store group by the operations of `StoreOp` alone. -/
theorem step_runs {s t : State} (h : step s = .next t) : StoreRun s t := by
  unfold step at h
  split at h
  · cases h
    exact .refl s
  · rename_i i rest _
    obtain ⟨u, hu, hrun⟩ := exec_runs i { s with pending := rest }
    rw [hu] at h
    cases h
    have hrest : StoreRun s { s with pending := rest } :=
      (StoreRun.refl s).still ⟨rfl, rfl, rfl, rfl, rfl, rfl, rfl, rfl⟩
    exact Relation.ReflTransGen.trans hrest hrun

/-- What every operation of `StoreOp` keeps, every step keeps. -/
theorem step_keeps {P : State → Prop} (hop : ∀ {s t}, StoreOp s t → P s → P t) {s t : State} (h : step s = .next t)
    (hs : P s) :
    P t := (step_runs h).induction hop hs

end Sys2Proof.StoreProofs
end

section
/-! SUPPORT. The proofs of chapters 3, 5 and 9, continued: lists kept by key, what the load of the directory takes, the rebuilding of the revocation list and the log scan (R65, R66, R101,
R163). -/

namespace Sys2Proof.StoreProofs

open Sys2Proof.Machine Sys2Proof.Safety

/-! ## Sparse lists as lists -/

/-- In a rising list the value at a key is that of the key's only pair. -/
theorem Sparse.get_eq_some_iff {α : Type} {l : List (Nat × α)} (h : Sparse.rising l) (k : Nat) (v : α) :
    Sparse.get k l = some v ↔ (k, v) ∈ l := by
  induction l with
  | nil => simp [Sparse.get]
  | cons p l ih =>
    obtain ⟨hp, hl⟩ := List.pairwise_cons.1 h
    by_cases hk : p.1 = k
    · subst hk
      have hnot : (p.1, v) ∉ l := fun hm => lt_irrefl _ (hp (p.1, v) hm)
      simp [Sparse.get, hnot, Prod.ext_iff, eq_comm]
    · simp [Sparse.get, hk, ih hl, Prod.ext_iff, Ne.symm hk]

/-- A key above all others is put at the end. -/
theorem Sparse.put_above {α : Type} {l : List (Nat × α)} {k : Nat} (v : α) (h : ∀ p ∈ l, p.1 < k) :
    Sparse.put k v l = l ++ [(k, v)] := by
  induction l with
  | nil => rfl
  | cons p l ih =>
    have hp : p.1 < k := h p (by simp)
    simp [Sparse.put, show ¬ k < p.1 by omega, show k ≠ p.1 by omega, ih fun q hq => h q (by simp [hq])]

/-- A map of the values maps what is found. -/
theorem Sparse.get_map {α β : Type} (f : α → β) (k : Nat) (l : List (Nat × α)) :
    Sparse.get k (l.map fun p => (p.1, f p.2)) = (Sparse.get k l).map f := by
  induction l with
  | nil => rfl
  | cons p l ih =>
    simp only [List.map_cons, Sparse.get, ih]
    split <;> rfl

/-- The pairs of a rising list are its keys with what is found there. -/
theorem Sparse.filter_keys {α : Type} {l : List (Nat × α)} {n : Nat} (h : Sparse.rising l) (hn : ∀ p ∈ l, p.1 < n)
    (P : Nat × α → Bool) :
    (l.filter P).map (fun p => p.1) = (List.range n).filter fun i => (Sparse.get i l).any fun v => P (i, v) := by
  refine List.Pairwise.eq_of_mem_iff (r := (· < ·)) ?_ (List.pairwise_lt_range.filter _) fun i => ?_
  · exact List.pairwise_map.2 (h.filter P)
  · simp only [List.mem_map, List.mem_filter, List.mem_range, Option.any_eq_true, Sparse.get_eq_some_iff h]
    constructor
    · rintro ⟨p, ⟨hp, hP⟩, rfl⟩
      exact ⟨hn p hp, p.2, hp, hP⟩
    · rintro ⟨-, v, hv, hP⟩
      exact ⟨(i, v), ⟨hv, hP⟩, rfl⟩

/-! ## The directory load (R65) -/

/-- The entry of a slot that holds a card in the bucket it selects (R65). -/
def ownEntry (store : List Host.Cell) (i : Nat) : Option DirEntry :=
  (parseDirEntry (readSlot store (.dir i))).filter fun e => decide (e.card.toNat % 256 = i / 8)

/-- The entry of a slot that holds its card for the first time in the load's order (R65). -/
def firstEntry (store : List Host.Cell) (i : Nat) : Option DirEntry :=
  (ownEntry store i).filter fun e => (List.range i).all fun j => (ownEntry store j).all fun g => decide (g.card ≠ e.card)

theorem ownEntry_eq_some {store : List Host.Cell} {i : Nat} {e : DirEntry} :
    ownEntry store i = some e ↔ parseDirEntry (readSlot store (.dir i)) = some e ∧ bucketOf e.card = i / 8 := by
  simp [ownEntry, Option.filter_eq_some_iff, bucketOf]

theorem firstEntry_eq_some {store : List Host.Cell} {i : Nat} {e : DirEntry} :
    firstEntry store i = some e ↔ ownEntry store i = some e ∧ ∀ j < i, ∀ g ∈ ownEntry store j, g.card ≠ e.card := by
  simp [firstEntry, Option.filter_eq_some_iff, Option.all_eq_true]

/-- The slots below `n` that the load takes, with their ways. -/
def takenWays (store : List Host.Cell) (before : List (Nat × DirWay)) (n : Nat) : List (Nat × DirWay) :=
  (List.range n).filterMap fun i => (firstEntry store i).map fun e => (i, ⟨e, keptUsage before i e.card⟩)

/-- The slots below `n` whose entry the load does not take. -/
def unusedSlots (store : List Host.Cell) (n : Nat) : List Nat :=
  (List.range n).filter fun i => (parseDirEntry (readSlot store (.dir i))).isSome && (firstEntry store i).isNone

theorem mem_takenWays {store : List Host.Cell} {before : List (Nat × DirWay)} {n : Nat} {p : Nat × DirWay} :
    p ∈ takenWays store before n ↔
      p.1 < n ∧ ∃ e, firstEntry store p.1 = some e ∧ p.2 = ⟨e, keptUsage before p.1 e.card⟩ := by
  obtain ⟨i, w⟩ := p
  simp only [takenWays, List.mem_filterMap, List.mem_range, Option.map_eq_some_iff, Prod.mk.injEq]
  constructor
  · rintro ⟨j, hj, e, he, rfl, rfl⟩
    exact ⟨hj, e, he, rfl⟩
  · rintro ⟨hi, e, he, rfl⟩
    exact ⟨i, hi, e, he, rfl, rfl⟩

theorem takenWays_succ (store : List Host.Cell) (before : List (Nat × DirWay)) (n : Nat) :
    takenWays store before (n + 1) = takenWays store before n ++
      ((firstEntry store n).map fun e => (n, (⟨e, keptUsage before n e.card⟩ : DirWay))).toList := by
  rw [takenWays, List.range_succ, List.filterMap_append]
  cases h : firstEntry store n <;> simp [takenWays, h]

theorem unusedSlots_succ (store : List Host.Cell) (n : Nat) :
    unusedSlots store (n + 1) = unusedSlots store n ++
      if (parseDirEntry (readSlot store (.dir n))).isSome && (firstEntry store n).isNone then [n] else [] := by
  rw [unusedSlots, List.range_succ, List.filter_append, List.filter_singleton, Bool.cond_eq_ite]
  rfl

theorem takenWays_rising (store : List Host.Cell) (before : List (Nat × DirWay)) (n : Nat) :
    Sparse.rising (takenWays store before n) := by
  refine List.pairwise_lt_range.filterMap _ fun i j hij p hp q hq => ?_
  obtain ⟨e, -, rfl⟩ := Option.map_eq_some_iff.1 hp
  obtain ⟨g, -, rfl⟩ := Option.map_eq_some_iff.1 hq
  exact hij

/-- A slot with a card of its own bucket is the first of that card exactly when no earlier one was taken with it. -/
theorem takenWays_any_holdsCard {store : List Host.Cell} {before : List (Nat × DirWay)} {n : Nat} {e : DirEntry} :
    (takenWays store before n).any (holdsCard e.card) = false ↔ ∀ j < n, ∀ g ∈ ownEntry store j, g.card ≠ e.card := by
  constructor
  · intro hnone j hj g hg hcard
    induction j using Nat.strong_induction_on generalizing g with
    | _ j ih =>
      by_cases hfirst : ∀ k < j, ∀ x ∈ ownEntry store k, x.card ≠ g.card
      · have hm := mem_takenWays (p := (j, ⟨g, keptUsage before j g.card⟩)).2
          ⟨hj, g, firstEntry_eq_some.2 ⟨hg, hfirst⟩, rfl⟩
        have hbucket := (ownEntry_eq_some.1 hg).2
        refine absurd (List.any_eq_false.1 hnone _ hm) (not_not_intro ?_)
        simp [holdsCard, ← hcard, hbucket]
      · push Not at hfirst
        obtain ⟨k, hk, x, hx, hxg⟩ := hfirst
        exact ih k hk (hk.trans hj) x hx (hxg.trans hcard)
  · intro hnone
    refine List.any_eq_false.2 fun p hp hholds => ?_
    obtain ⟨hlt, g, hg, hw⟩ := mem_takenWays.1 hp
    have hcard : p.2.entry.card = e.card := by
      simp only [holdsCard, Bool.and_eq_true, decide_eq_true_eq] at hholds
      exact hholds.2
    exact hnone p.1 hlt g (firstEntry_eq_some.1 hg).1 (by rw [← hcard, hw])

/-- The load, slot by slot: what is taken and what is not (R65). -/
theorem foldl_loadSlot (store : List Host.Cell) (before : List (Nat × DirWay)) (n : Nat) :
    (List.range n).foldl (loadSlot store before) ([], []) = (takenWays store before n, unusedSlots store n) := by
  induction n with
  | zero => rfl
  | succ n ih =>
    rw [List.range_succ, List.foldl_concat, ih, takenWays_succ, unusedSlots_succ]
    cases hparse : parseDirEntry (readSlot store (.dir n)) with
    | none =>
      have hfirst : firstEntry store n = none := by simp [firstEntry, ownEntry, hparse]
      simp [loadSlot, hparse, hfirst]
    | some e =>
      by_cases htake : bucketOf e.card = n / 8 ∧ (takenWays store before n).any (holdsCard e.card) = false
      · have hfirst : firstEntry store n = some e :=
          firstEntry_eq_some.2 ⟨ownEntry_eq_some.2 ⟨hparse, htake.1⟩, takenWays_any_holdsCard.1 htake.2⟩
        have hput := Sparse.put_above (k := n) (⟨e, keptUsage before n e.card⟩ : DirWay)
          fun p (hp : p ∈ takenWays store before n) => (mem_takenWays.1 hp).1
        rw [loadSlot, hparse]
        simp only [if_pos htake, hput, hfirst]
        simp
      · have hfirst : firstEntry store n = none := by
          rw [Option.eq_none_iff_forall_ne_some]
          intro g hg
          obtain ⟨hown, hnew⟩ := firstEntry_eq_some.1 hg
          obtain ⟨hg', hbucket⟩ := ownEntry_eq_some.1 hown
          cases hparse.symm.trans hg'
          exact htake ⟨hbucket, takenWays_any_holdsCard.2 hnew⟩
        rw [loadSlot, hparse]
        simp only [if_neg htake, hfirst]
        simp

theorem loadDirectory_eq (store : List Host.Cell) (before : List (Nat × DirWay)) :
    loadDirectory store before = (takenWays store before 2048, unusedSlots store 2048) :=
  foldl_loadSlot store before 2048

theorem keptUsage_le {before : List (Nat × DirWay)} (h : ∀ p ∈ before, p.2.usage ≤ 255) (hr : Sparse.rising before)
    (i : Nat) (card : Word32) : keptUsage before i card ≤ 255 := by
  unfold keptUsage
  split
  · rename_i w hw
    split
    · exact h _ ((Sparse.get_eq_some_iff hr i w).1 hw)
    · exact Nat.zero_le _
  · exact Nat.zero_le _

/-! ## The reconciliation (R102) -/

/-- A way with the status of the newest record for its card, or its own (R94, R102). -/
def reconciledWay (x : Ru) (w : DirWay) : DirWay :=
  { w with entry := { w.entry with blocked := ((newestRecord w.entry.card x).map RevRecord.block).getD w.entry.blocked } }

/-- Oldest record first, each entry of its own bucket ends with the status of the newest record for its card. -/
theorem reconcile_eq (x : Ru) {image : List (Nat × DirWay)} (h : ∀ p ∈ image, p.1 / 8 = bucketOf p.2.entry.card) :
    reconcile x.list image = image.map fun p => (p.1, reconciledWay x p.2) := by
  suffices hlist : ∀ l : List RevRecord,
      reconcile l image = image.map fun p => (p.1, reconciledWay { x with list := l } p.2) from hlist x.list
  intro l
  induction l using List.reverseRecOn with
  | nil =>
    refine (List.map_id' _).symm.trans (List.map_congr_left fun p _ => ?_)
    simp [reconciledWay, newestRecord]
  | append_singleton l r ih =>
    rw [reconcile, List.foldl_concat, ← reconcile, ih, setStatus, List.map_map]
    refine List.map_congr_left fun p hp => ?_
    by_cases hcard : r.card = p.2.entry.card
    · simp [reconciledWay, newestRecord, holdsCard, h p hp, hcard]
    · simp [reconciledWay, newestRecord, holdsCard, hcard, Ne.symm hcard]

/-! ## The rebuild of the list (R101) -/

theorem takingPart_eq (store : List Host.Cell) (base i : Nat) :
    takingPart store base i =
      (parseRevRecord (readSlot store (.rev i))).filter fun r => decide (r.seq % 64 = i ∧ base < r.seq) := by
  unfold takingPart
  cases parseRevRecord (readSlot store (.rev i)) with
  | none => rfl
  | some r => simp [Option.filter_some]

/-- A record takes part when the slot of its sequence holds it (R91, R101). -/
theorem mem_storedRecords {store : List Host.Cell} {base : Nat} {r : RevRecord} :
    r ∈ storedRecords store base ↔ takingPart store base (r.seq % 64) = some r := by
  simp only [storedRecords, List.mem_filterMap, List.mem_range]
  constructor
  · rintro ⟨i, -, h⟩
    have hi : r.seq % 64 = i := by
      rw [takingPart_eq, Option.filter_eq_some_iff] at h
      exact (of_decide_eq_true h.2).1
    rwa [hi]
  · exact fun h => ⟨_, Nat.mod_lt _ (by decide), h⟩

theorem base_lt_of_mem_storedRecords {store : List Host.Cell} {base : Nat} {r : RevRecord}
    (h : r ∈ storedRecords store base) : base < r.seq := by
  rw [mem_storedRecords, takingPart_eq, Option.filter_eq_some_iff] at h
  exact (of_decide_eq_true h.2).2

/-- The highest of some numbers is one of them or 0, and none is above it. -/
theorem highest_spec (l : List Nat) : (highest l = 0 ∨ highest l ∈ l) ∧ ∀ n ∈ l, n ≤ highest l := by
  suffices h : ∀ a, (l.foldl max a = a ∨ l.foldl max a ∈ l) ∧ a ≤ l.foldl max a ∧ ∀ n ∈ l, n ≤ l.foldl max a from
    ⟨(h 0).1, (h 0).2.2⟩
  induction l with
  | nil => simp
  | cons x l ih =>
    intro a
    obtain ⟨hmem, hle, hall⟩ := ih (max a x)
    simp only [List.foldl_cons, List.mem_cons, forall_eq_or_imp]
    refine ⟨?_, by omega, by omega, hall⟩
    rcases hmem with hmem | hmem
    · rcases max_choice a x with h | h <;> rw [h] at hmem ⊢ <;> simp [hmem]
    · exact .inr (.inr hmem)

/-- The run downward from a sequence: records found of consecutive sequences, as many as the fuel gives or until one is missing. -/
structure DownwardRun (found : List RevRecord) (fuel seq : Nat) (l : List RevRecord) : Prop where
  length_le : l.length ≤ fuel ∧ l.length ≤ seq
  seqs : l.map RevRecord.seq = (List.range l.length).map fun i => seq + 1 - l.length + i
  subset : ∀ r ∈ l, r ∈ found
  maximal : l.length = fuel ∨ ∀ r ∈ found, r.seq ≠ seq - l.length

theorem recordRun_spec {found : List RevRecord} (hpos : ∀ r ∈ found, 0 < r.seq) (n seq : Nat) (acc : List RevRecord) :
    ∃ l, recordRun found n seq acc = l ++ acc ∧ DownwardRun found n seq l := by
  induction n generalizing seq acc with
  | zero => exact ⟨[], rfl, by simp, rfl, by simp, .inl rfl⟩
  | succ n ih =>
    rw [recordRun]
    cases hfind : found.find? fun r => decide (r.seq = seq) with
    | none =>
      refine ⟨[], rfl, by simp, rfl, by simp, .inr fun r hr => ?_⟩
      simpa using List.find?_eq_none.1 hfind r hr
    | some r =>
      have hr : r ∈ found := List.mem_of_find?_eq_some hfind
      have hseq : r.seq = seq := by simpa using List.find?_some hfind
      have hseq0 := hpos r hr
      obtain ⟨l, hl, hlen, hseqs, hsub, hmax⟩ := ih (seq - 1) (r :: acc)
      refine ⟨l ++ [r], by simp [hl], by simp; omega, ?_, ?_, ?_⟩
      · rw [List.map_append, hseqs, List.length_append, List.length_singleton, List.range_succ, List.map_append]
        refine congrArg₂ _ (List.map_congr_left fun i _ => ?_) ?_
        · omega
        · simp only [List.map_cons, List.map_nil, List.cons.injEq, and_true]
          omega
      · simpa [or_imp, forall_and, hr] using hsub
      · rw [List.length_append, List.length_singleton]
        refine hmax.imp (fun h => by omega) fun h x hx => ?_
        have := h x hx
        omega

/-- The rebuilt list is the run downward from the highest sequence found, 64 records at most (R101). -/
theorem rebuildRevocations_run (store : List Host.Cell) (x : Ru) :
    let found := storedRecords store (storedBase store)
    DownwardRun found 64 (highest (found.map RevRecord.seq)) (rebuildRevocations store x).list := by
  intro found
  have hpos : ∀ r ∈ found, 0 < r.seq := fun r hr => Nat.zero_lt_of_lt (base_lt_of_mem_storedRecords hr)
  obtain ⟨l, hl, hrun⟩ := recordRun_spec hpos 64 (highest (found.map RevRecord.seq)) []
  rw [List.append_nil] at hl
  rwa [rebuildRevocations, hl]

/-- The mark is the highest sequence found, the base with none found (R101). -/
theorem rebuildRevocations_mark (store : List Host.Cell) (x : Ru) :
    let found := storedRecords store (storedBase store)
    (found = [] → (rebuildRevocations store x).mark = storedBase store ∧ (rebuildRevocations store x).list = []) ∧
    (found ≠ [] → (rebuildRevocations store x).mark = highest (found.map RevRecord.seq) ∧
      (∀ r ∈ found, r.seq ≤ (rebuildRevocations store x).mark) ∧
      ∃ r ∈ found, r.seq = (rebuildRevocations store x).mark) := by
  intro found
  refine ⟨fun h => ?_, fun h => ?_⟩
  · simp [rebuildRevocations, show storedRecords store (storedBase store) = [] from h, highest, recordRun]
  · have hmark : (rebuildRevocations store x).mark = highest (found.map RevRecord.seq) := if_neg h
    obtain ⟨hmem, hle⟩ := highest_spec (found.map RevRecord.seq)
    rw [hmark]
    refine ⟨rfl, fun r hr => hle _ (List.mem_map_of_mem hr), ?_⟩
    obtain ⟨r, hr⟩ := List.exists_mem_of_ne_nil _ h
    have h0 := base_lt_of_mem_storedRecords hr
    have h1 := hle _ (List.mem_map_of_mem hr)
    exact List.mem_map.1 (hmem.resolve_left (by omega))

theorem rebuildRevocations_law (store : List Host.Cell) (x : Ru) : RevocationLaw (rebuildRevocations store x) := by
  obtain ⟨hlen, hseqs, -, -⟩ := rebuildRevocations_run store x
  obtain ⟨hnone, hsome⟩ := rebuildRevocations_mark store x
  by_cases h : storedRecords store (storedBase store) = []
  · simp [RevocationLaw, (hnone h).2]
  · rw [RevocationLaw, (hsome h).1]
    exact ⟨hlen.1, hlen.2, hseqs⟩

/-! ## The log scan (R163) -/

/-- The index of a log slot that takes part in the scan (R160, R163). -/
def storedIndex (store : List Host.Cell) (i : Nat) : Option Nat :=
  (parseLogIndex (readSlot store (.log i))).filter fun n => decide (n % 1024 = i)

theorem storedIndices_eq (store : List Host.Cell) : storedIndices store = (List.range 1024).filterMap (storedIndex store) := by
  refine List.filterMap_congr fun i _ => ?_
  unfold storedIndex
  cases parseLogIndex (readSlot store (.log i)) with
  | none => rfl
  | some n => simp [Option.filter_some]

theorem mem_storedIndices {store : List Host.Cell} {n : Nat} :
    n ∈ storedIndices store ↔ storedIndex store (n % 1024) = some n := by
  simp only [storedIndices_eq, List.mem_filterMap, List.mem_range]
  constructor
  · rintro ⟨i, -, h⟩
    have hi : n % 1024 = i := by
      rw [storedIndex, Option.filter_eq_some_iff] at h
      exact of_decide_eq_true h.2
    rwa [hi]
  · exact fun h => ⟨_, Nat.mod_lt _ (by decide), h⟩

/-- The lowest index of a run: all indices from it up to the start are held, and the next lower one is not unless the run is as
long as it may be. -/
theorem lowestOfRun_spec (held : List Nat) (n i : Nat) :
    lowestOfRun held n i ≤ i ∧ i ≤ lowestOfRun held n i + n ∧
    (∀ k, lowestOfRun held n i ≤ k → k < i → k ∈ held) ∧
    (lowestOfRun held n i = 0 ∨ i = lowestOfRun held n i + n ∨ lowestOfRun held n i - 1 ∉ held) := by
  induction n generalizing i with
  | zero => exact ⟨le_rfl, le_rfl, fun k h1 h2 => absurd h1 (Nat.not_le.2 h2), .inr (.inl rfl)⟩
  | succ n ih =>
    rw [lowestOfRun]
    split
    · rename_i h
      obtain ⟨hpos, hheld⟩ := h
      obtain ⟨hle, hge, hrun, hmax⟩ := ih (i - 1)
      refine ⟨by omega, by omega, fun k hk hki => ?_, hmax.imp_right (Or.imp_left fun h => by omega)⟩
      by_cases hlast : k = i - 1
      · simpa [hlast] using hheld
      · exact hrun k hk (by omega)
    · rename_i h
      refine ⟨le_rfl, by omega, fun k h1 h2 => absurd h1 (Nat.not_le.2 h2), ?_⟩
      rcases Nat.eq_zero_or_pos i with h0 | h0
      · exact .inl h0
      · exact .inr (.inr fun hm => h ⟨h0, by simpa using hm⟩)

theorem scanLog_of_none {store : List Host.Cell} (h : storedIndices store = []) : scanLog store = ⟨0, 0⟩ := by
  unfold scanLog
  split
  · rfl
  · rename_i heq
    exact absurd (heq.symm.trans h) (List.cons_ne_nil _ _)

theorem scanLog_eq {store : List Host.Cell} (h : storedIndices store ≠ []) :
    scanLog store = ⟨lowestOfRun (storedIndices store) 1023 (highest (storedIndices store)),
      min lastIndex (highest (storedIndices store) + 1)⟩ := by
  unfold scanLog
  split
  · exact absurd ‹_› h
  · rename_i heq
    rw [heq]

/-- An index is four bytes of the store. -/
theorem fieldAt_four_lt (l : List Byte) (i : Nat) : fieldAt l i 4 < 4294967296 := by
  have hbound : ∀ (l : List Byte) (a : Nat), l.foldl (fun a b => a * 256 + b.toNat) a < (a + 1) * 256 ^ l.length := by
    intro l
    induction l with
    | nil => simp
    | cons b l ih =>
      intro a
      rw [List.foldl_cons, List.length_cons, pow_succ]
      have hb : b.toNat < 256 := b.isLt
      calc List.foldl (fun a b => a * 256 + b.toNat) (a * 256 + b.toNat) l
          < (a * 256 + b.toNat + 1) * 256 ^ l.length := ih _
        _ ≤ ((a + 1) * 256) * 256 ^ l.length := Nat.mul_le_mul_right _ (by omega)
        _ = (a + 1) * (256 ^ l.length * 256) := by ring
  have hlen : ((l.drop i).take 4).length ≤ 4 := by simp
  have hpow : 256 ^ ((l.drop i).take 4).length ≤ 4294967296 :=
    (Nat.pow_le_pow_right (by decide) hlen).trans (by norm_num)
  have hfield := hbound ((l.drop i).take 4) 0
  rw [Nat.zero_add, Nat.one_mul] at hfield
  rw [fieldAt, fromBe]
  exact hfield.trans_le hpow

theorem storedIndices_lt {store : List Host.Cell} {n : Nat} (h : n ∈ storedIndices store) : n < 4294967296 := by
  rw [mem_storedIndices, storedIndex, Option.filter_eq_some_iff, parseLogIndex_eq_some] at h
  rw [← h.1.2.2]
  exact fieldAt_four_lt _ _

theorem logLaw_zero : LogLaw ⟨0, 0⟩ := by decide

theorem scanLog_law (store : List Host.Cell) : LogLaw (scanLog store) := by
  by_cases h : storedIndices store = []
  · rw [scanLog_of_none h]
    exact logLaw_zero
  · have hrun := lowestOfRun_spec (storedIndices store) 1023 (highest (storedIndices store))
    have htop : highest (storedIndices store) < 4294967296 := by
      rcases (highest_spec (storedIndices store)).1 with h0 | hm
      · omega
      · exact storedIndices_lt hm
    rw [scanLog_eq h, LogLaw, lastIndex]
    generalize lowestOfRun (storedIndices store) 1023 (highest (storedIndices store)) = low at hrun ⊢
    generalize highest (storedIndices store) = top at hrun htop ⊢
    obtain ⟨hle, hge, -, -⟩ := hrun
    dsimp only
    omega

end Sys2Proof.StoreProofs
end

section
/-! SUPPORT. The proofs of chapters 3, 5 and 9, continued: the statements on the log, the store queues, the directory and the revocation list that every step keeps (R47, R57, R59, R60, R90,
R94, R159). -/

namespace Sys2Proof.StoreProofs

open Sys2Proof.Machine Sys2Proof.Safety

/-! ## The log and the store: O10 -/

/-- The laws of the log's range, the store's queues and images, and the store's canonical form (R57, R59, R60, R159). -/
def StoreLaw (s : State) : Prop := LogLaw s.dl ∧ StoreQueues s.sc ∧ ItemsFit s.sc ∧ Memory.wf s.sc.store = true

section
variable {s t : State}

theorem StoreLaw.of_eq (h : StoreLaw s) (hdl : t.dl = s.dl) (hstore : t.sc.store = s.sc.store) (hqueue : t.sc.queue = s.sc.queue)
    (hstaging : t.sc.staging = s.sc.staging) (hflight : t.sc.inFlight = s.sc.inFlight) : StoreLaw t := by
  simpa only [StoreLaw, StoreQueues, ItemsFit, hdl, hstore, hqueue, hstaging, hflight] using h

theorem StoreLaw.enqueue (h : StoreLaw s) {items : List StoreItem} (room : s.sc.queue.length + items.length ≤ 16)
    (fit : ∀ i ∈ items, i.bytes.length = i.slot.size) : StoreLaw (enqueue items s) := by
  obtain ⟨hlog, ⟨-, hstaging⟩, ⟨hqueue, hflight⟩, hwf⟩ := h
  refine ⟨hlog, ⟨by simpa [StoreProofs.enqueue] using room, hstaging⟩, ⟨fun i hi => ?_, hflight⟩, hwf⟩
  rcases List.mem_append.1 hi with hi | hi
  · exact hqueue i hi
  · exact fit i hi

/-- Taking an index keeps the range of held records at 1024 (R159). -/
theorem taken_law {x : Dl} (h : LogLaw x) (left : x.next < 4294967295) : LogLaw x.taken := by
  obtain ⟨hle, hrange, -⟩ := h
  have hplaces : logPlaces = 1024 := rfl
  simp only [LogLaw, Dl.taken]
  by_cases hfull : x.oldest + logPlaces < x.next + 1
  · simp only [if_pos hfull]
    omega
  · simp only [if_neg hfull]
    omega

theorem StoreLaw.stage (h : StoreLaw s) (r : LogRecord) (room : s.sc.staging.length < 8) (left : s.dl.next < 4294967295) :
    StoreLaw (stage r s) := by
  obtain ⟨hlog, ⟨hqueue, -⟩, hfit, hwf⟩ := h
  exact ⟨taken_law hlog left, ⟨hqueue, by simpa [StoreProofs.stage] using room⟩, hfit, hwf⟩

theorem StoreLaw.beginWrite (h : StoreLaw s) : StoreLaw (beginWrite s) := by
  rcases beginWrite_cases s with ⟨-, heq⟩ | ⟨-, -, -, heq⟩ | ⟨r, rest, -, hst, heq⟩ | ⟨i, rest, -, -, hq, heq⟩ <;> rw [heq]
  · exact h
  · exact h
  · obtain ⟨hlog, ⟨hqueue, hstaging⟩, ⟨hfit, -⟩, hwf⟩ := h
    rw [hst, List.length_cons] at hstaging
    refine ⟨hlog, ⟨hqueue, Nat.le_of_succ_le hstaging⟩, ⟨hfit, fun i hi => ?_⟩, hwf⟩
    cases hi
    exact logRecord_image_length r
  · obtain ⟨hlog, ⟨hqueue, hstaging⟩, ⟨hfit, -⟩, hwf⟩ := h
    rw [hq, List.length_cons] at hqueue
    rw [hq, List.forall_mem_cons] at hfit
    refine ⟨hlog, ⟨Nat.le_of_succ_le hqueue, hstaging⟩, ⟨hfit.2, fun j hj => ?_⟩, hwf⟩
    cases hj
    exact hfit.1

theorem StoreLaw.land (h : StoreLaw s) (item : StoreItem) : StoreLaw (land item s) := by
  obtain ⟨hlog, hqueues, ⟨hfit, -⟩, hwf⟩ := h
  exact ⟨hlog, hqueues, ⟨hfit, fun i hi => nomatch hi⟩, writeSlot_wf _ item hwf⟩

/-- A reset discards what waits for the store; the store and a write in flight stay (R64, R66). -/
theorem StoreLaw.of_discarded (h : StoreLaw s) (hdl : t.dl = ⟨0, 0⟩) (hstore : t.sc.store = s.sc.store)
    (hqueue : t.sc.queue = []) (hstaging : t.sc.staging = []) (hflight : t.sc.inFlight = s.sc.inFlight) : StoreLaw t := by
  obtain ⟨-, -, ⟨-, hfit⟩, hwf⟩ := h
  rw [← hflight] at hfit
  exact ⟨hdl ▸ logLaw_zero, by simp [StoreQueues, hqueue, hstaging], ⟨by simp [hqueue], hfit⟩, hstore ▸ hwf⟩

theorem rebuilt_dl (s : State) : (rebuilt s).dl = scanLog s.sc.store := by
  simp only [rebuilt, State.setDl_dl]

theorem rebuilt_sc (s : State) : (rebuilt s).sc = s.sc := by
  simp only [rebuilt, State.setDl_sc, State.setRu_sc, State.setCd_sc]

theorem StoreOp.keeps_storeLaw (h : StoreOp s t) (hs : StoreLaw s) : StoreLaw t := by
  cases h with
  | still h =>
    obtain ⟨-, hstore, hqueue, hstaging, hflight, -, -, hdl⟩ := h
    exact hs.of_eq hdl hstore hqueue hstaging hflight
  | enqueue items room fit => exact hs.enqueue room fit
  | stage r room left => exact hs.stage r room left
  | beginWrite => exact hs.beginWrite
  | land item => exact hs.land item
  | countUsage card | zeroUsage | replaceEntry found | createEntry absent free | dropEntry slot =>
    exact hs.of_eq (by simp) (by simp) (by simp) (by simp) (by simp)
  | appendRecord next =>
    exact hs.of_eq (by simp [StoreProofs.appendRecord]) (by simp [StoreProofs.appendRecord])
      (by simp [StoreProofs.appendRecord]) (by simp [StoreProofs.appendRecord]) (by simp [StoreProofs.appendRecord])
  | jumpRecord ahead =>
    exact hs.of_eq (by simp [StoreProofs.jumpRecord]) (by simp [StoreProofs.jumpRecord])
      (by simp [StoreProofs.jumpRecord]) (by simp [StoreProofs.jumpRecord]) (by simp [StoreProofs.jumpRecord])
  | rebuilt =>
    rw [StoreLaw, rebuilt_dl, rebuilt_sc]
    exact ⟨scanLog_law _, hs.2⟩
  | coldBlocks | warmBlocks => exact hs.of_discarded rfl rfl rfl rfl rfl
  | enterSafe => exact ⟨logLaw_zero, hs.2⟩

end

/-- Settles O10: each operation keeps the laws, so every step does. -/
theorem stepKeepsLogAndStore : Obligations.StepKeepsLogAndStore :=
  fun _ _ hs hstep => step_keeps StoreOp.keeps_storeLaw hstep hs

/-! ## The directory and the revocation list: O9 -/

/-- The laws of the directory image and of its statuses (R47, R94). -/
def CardLaw (s : State) : Prop := DirectoryLaw s.cd ∧ StatusLaw s

section
variable {s t : State}

theorem CardLaw.of_eq (h : CardLaw s) (himage : t.cd.image = s.cd.image) (hlist : t.ru.list = s.ru.list) : CardLaw t := by
  simpa only [CardLaw, DirectoryLaw, StatusLaw, newestRecord, himage, hlist] using h

theorem cardLaw_of_empty (himage : t.cd.image = []) : CardLaw t := by
  simp [CardLaw, DirectoryLaw, StatusLaw, himage]

theorem directoryLaw_rising {x : Cd} (h : DirectoryLaw x) : Sparse.rising x.image := h.1.imp And.left

/-- A card has one way at most (R47). -/
theorem directoryLaw_way_unique {x : Cd} (h : DirectoryLaw x) {p q : Nat × DirWay} (hp : p ∈ x.image) (hq : q ∈ x.image)
    (hcard : p.2.entry.card = q.2.entry.card) : p = q := by
  by_contra hne
  have hcards : x.image.Pairwise fun p q => p.2.entry.card ≠ q.2.entry.card := h.1.imp And.right
  have : Std.Symm fun p q : Nat × DirWay => p.2.entry.card ≠ q.2.entry.card := ⟨fun _ _ => Ne.symm⟩
  exact hcards.forall hp hq hne hcard

/-- A card that a lookup does not find has no way (R47, R49). -/
theorem directoryLaw_not_held (h : DirectoryLaw s.cd) {card : Word32} (absent : lookupCard card s = none)
    {p : Nat × DirWay} (hp : p ∈ s.cd.image) : p.2.entry.card ≠ card := by
  rintro rfl
  have := List.find?_eq_none.1 absent p hp
  simp [holdsCard, bucketOf, (h.2 p hp).2.1] at this

/-- The pairs of a rising list after a value is put. -/
theorem Sparse.mem_put_rising {α : Type} {k : Nat} {v : α} {l : List (Nat × α)} (h : Sparse.rising l) {p : Nat × α}
    (hp : p ∈ Sparse.put k v l) : p = (k, v) ∨ (p ∈ l ∧ p.1 ≠ k) := by
  by_cases hk : p.1 = k
  · have hget := (Sparse.get_eq_some_iff (Sparse.put_rising k v l h) p.1 p.2).2 hp
    rw [hk, Sparse.get_put_same, Option.some.injEq] at hget
    exact .inl (Prod.ext hk hget.symm)
  · exact .inr ⟨(Sparse.mem_put hp).resolve_left fun he => hk (congrArg Prod.fst he), hk⟩

theorem directoryLaw_put {x : Cd} (h : DirectoryLaw x) {slot : Nat} {w : DirWay} (hslot : slot < 2048)
    (hbucket : slot / 8 = w.entry.card.toNat % 256) (husage : w.usage ≤ 255)
    (hnew : ∀ p ∈ x.image, p.1 ≠ slot → p.2.entry.card ≠ w.entry.card) :
    DirectoryLaw { x with image := Sparse.put slot w x.image } := by
  have hrising := (directoryLaw_rising h)
  refine ⟨(Sparse.put_rising slot w _ hrising).imp_of_mem fun {p q} hp hq hlt => ⟨hlt, ?_⟩, fun p hp => ?_⟩
  · rcases Sparse.mem_put_rising hrising hp with rfl | ⟨hp, hps⟩ <;>
      rcases Sparse.mem_put_rising hrising hq with rfl | ⟨hq, hqs⟩
    · exact absurd hlt (lt_irrefl _)
    · exact (hnew q hq hqs).symm
    · exact hnew p hp hps
    · exact fun hcard => lt_irrefl _ (directoryLaw_way_unique h hp hq hcard ▸ hlt)
  · rcases Sparse.mem_put hp with rfl | hp
    · exact ⟨hslot, hbucket, husage⟩
    · exact h.2 p hp

/-- A way replaced by one of the same card (R47). -/
theorem directoryLaw_replace (h : DirectoryLaw s.cd) {card : Word32} {slot : Nat} {w v : DirWay}
    (found : lookupCard card s = some (slot, w)) (hcard : v.entry.card = w.entry.card) (husage : v.usage ≤ 255) :
    DirectoryLaw (setWay slot v s).cd := by
  obtain ⟨hmem, -, -⟩ := lookupCard_some found
  obtain ⟨hslot, hbucket, -⟩ := h.2 _ hmem
  refine directoryLaw_put h hslot (hcard ▸ hbucket) husage fun p hp hps => ?_
  rw [hcard]
  exact fun he => hps (congrArg Prod.fst (directoryLaw_way_unique h hp hmem he))

/-- A way put whose status is that of the newest record for its card keeps the statuses (R94). -/
theorem CardLaw.setWay (h : CardLaw s) {slot : Nat} {w : DirWay} (hdir : DirectoryLaw (setWay slot w s).cd)
    (hstatus : ∀ r ∈ newestRecord w.entry.card s.ru, w.entry.blocked = r.block) : CardLaw (setWay slot w s) := by
  refine ⟨hdir, fun p hp r hr => ?_⟩
  rcases Sparse.mem_put hp with rfl | hp
  · exact hstatus r hr
  · exact h.2 p hp r hr

theorem CardLaw.countUsage (h : CardLaw s) (card : Word32) : CardLaw (countUsage card s) := by
  unfold Machine.countUsage
  split
  · rename_i slot w found
    exact h.setWay (directoryLaw_replace h.1 found rfl (Nat.min_le_left _ _)) (h.2 _ (lookupCard_some found).1)
  · exact h

theorem CardLaw.zeroUsage (h : CardLaw s) : CardLaw (zeroUsage s) := by
  obtain ⟨⟨hpair, hall⟩, hstatus⟩ := h
  refine ⟨⟨List.pairwise_map.2 hpair, ?_⟩, ?_⟩
  · intro p hp
    obtain ⟨q, hq, rfl⟩ := List.mem_map.1 hp
    exact ⟨(hall q hq).1, (hall q hq).2.1, Nat.zero_le _⟩
  · intro p hp r hr
    obtain ⟨q, hq, rfl⟩ := List.mem_map.1 hp
    exact hstatus q hq r hr

theorem CardLaw.replaceEntry (h : CardLaw s) {e : DirEntry} {slot : Nat} {w : DirWay}
    (found : lookupCard e.card s = some (slot, w)) :
    CardLaw (Machine.setWay slot { w with entry := e.withStatus w.entry.blocked } s) := by
  obtain ⟨hmem, -, hcard⟩ := lookupCard_some found
  refine h.setWay (directoryLaw_replace h.1 found hcard.symm (h.1.2 _ hmem).2.2) fun r hr => ?_
  exact h.2 _ hmem r (by rw [hcard]; exact hr)

/-- The lowest empty way of a bucket is a slot of the bucket (R53). -/
theorem emptyWay_some {bucket slot : Nat} (h : emptyWay bucket s = some slot) : slot / 8 = bucket := by
  obtain ⟨i, hi, rfl⟩ := List.mem_map.1 (List.mem_of_find?_eq_some h)
  have := List.mem_range.1 hi
  omega

theorem CardLaw.createEntry (h : CardLaw s) {e : DirEntry} {slot : Nat} (absent : lookupCard e.card s = none)
    (free : emptyWay (bucketOf e.card) s = some slot) :
    CardLaw (Machine.setWay slot ⟨e.withStatus (statusAtCreation e.card s), 0⟩ s) := by
  have hslot := emptyWay_some free
  have hbucket : bucketOf e.card < 256 := Nat.mod_lt _ (by decide)
  have hlaw := directoryLaw_put h.1 (w := ⟨e.withStatus (statusAtCreation e.card s), 0⟩) (by omega) hslot (Nat.zero_le _)
    fun p hp _ => directoryLaw_not_held h.1 absent hp
  refine h.setWay hlaw fun r hr => ?_
  have hr' : newestRecord e.card s.ru = some r := hr
  simp [DirEntry.withStatus, statusAtCreation, hr']

theorem Sparse.del_sublist {α : Type} (k : Nat) (l : List (Nat × α)) : (Sparse.del k l).Sublist l := by
  induction l with
  | nil => exact .slnil
  | cons p l ih =>
    simp only [Sparse.del]
    split
    · exact List.sublist_cons_self p l
    · exact ih.cons_cons p

theorem CardLaw.dropEntry (h : CardLaw s) (slot : Nat) :
    CardLaw (s.setCd { s.cd with image := Sparse.del slot s.cd.image }) := by
  have hsub := Sparse.del_sublist slot s.cd.image
  exact ⟨⟨h.1.1.sublist hsub, fun p hp => h.1.2 p (hsub.mem hp)⟩, fun p hp => h.2 p (hsub.mem hp)⟩

/-- CD takes a record's status, and RU a list whose newest record for the card is that record and for every other card one that
was the newest before (R93, R95). -/
theorem CardLaw.takeStatus (h : CardLaw s) {r : RevRecord} {x : Ru}
    (hnewest : ∀ card, ∀ q ∈ newestRecord card x, if card = r.card then q = r else q ∈ newestRecord card s.ru) :
    CardLaw ((applyStatus r s).setRu x) := by
  unfold applyStatus
  split
  · rename_i slot w found
    obtain ⟨hmem, -, hcard⟩ := lookupCard_some found
    refine ⟨directoryLaw_replace h.1 found rfl (h.1.2 _ hmem).2.2, fun p hp q hq => ?_⟩
    have hq' := hnewest _ q hq
    rcases Sparse.mem_put_rising (directoryLaw_rising h.1) hp with rfl | ⟨hp, hps⟩
    · rw [if_pos hcard] at hq'
      rw [hq']
    · rw [if_neg fun he => hps (congrArg Prod.fst (directoryLaw_way_unique h.1 hp hmem (he.trans hcard.symm)))] at hq'
      exact h.2 p hp q hq'
  · rename_i absent
    refine ⟨h.1, fun p hp q hq => h.2 p hp q ?_⟩
    have hq' := hnewest _ q hq
    rwa [if_neg (directoryLaw_not_held h.1 absent hp)] at hq'

/-- The newest record for a card in a list with one more record at its end. -/
theorem newestRecord_concat (card : Word32) (r : RevRecord) (x : Ru) (l : List RevRecord) (h : x.list = l ++ [r]) :
    newestRecord card x = if r.card = card then some r else l.reverse.find? fun r => decide (r.card = card) := by
  rw [newestRecord, h, List.reverse_append, List.reverse_singleton, List.singleton_append, List.find?_cons]
  by_cases hc : r.card = card <;> simp [hc]

theorem CardLaw.appendRecord (h : CardLaw s) (r : RevRecord) : CardLaw (appendRecord r s) := by
  refine h.takeStatus fun card q hq => ?_
  rw [newestRecord_concat card r _ _ rfl] at hq
  split
  · rename_i hcard
    simpa [hcard] using hq.symm
  · rename_i hcard
    rw [if_neg (Ne.symm hcard)] at hq
    split at hq
    · rw [newestRecord, ← List.take_append_drop 1 s.ru.list, List.reverse_append, List.find?_append, hq]
      rfl
    · exact hq

theorem CardLaw.jumpRecord (h : CardLaw s) (r : RevRecord) : CardLaw (jumpRecord r s) := by
  refine h.takeStatus fun card q hq => ?_
  rw [newestRecord_concat card r _ [] rfl] at hq
  split
  · rename_i hcard
    simpa [hcard] using hq.symm
  · rename_i hcard
    rw [if_neg (Ne.symm hcard)] at hq
    cases hq

/-- The image that the load and the reconciliation leave (R65, R102). -/
theorem rebuilt_image (s : State) :
    (rebuilt s).cd.image = (takenWays s.sc.store s.cd.image 2048).map fun p => (p.1, reconciledWay (rebuilt s).ru p.2) := by
  have hown : ∀ p ∈ takenWays s.sc.store s.cd.image 2048, p.1 / 8 = bucketOf p.2.entry.card := by
    intro p hp
    obtain ⟨-, e, he, hw⟩ := mem_takenWays.1 hp
    rw [hw]
    exact (ownEntry_eq_some.1 (firstEntry_eq_some.1 he).1).2.symm
  have hload : (loadDirectory s.sc.store s.cd.image).1 = takenWays s.sc.store s.cd.image 2048 := by rw [loadDirectory_eq]
  rw [← reconcile_eq _ hown, ← hload]
  simp only [rebuilt, State.setDl_cd, State.setDl_ru, State.setRu_cd, State.setRu_ru, State.setCd_cd]

/-- The load takes each card once, in its bucket (R47, R65). -/
theorem takenWays_law (store : List Host.Cell) {x : Cd} (h : DirectoryLaw x) {n : Nat} (hn : n ≤ 2048) :
    DirectoryLaw { x with image := takenWays store x.image n } := by
  refine ⟨(takenWays_rising store x.image n).imp_of_mem fun {p q} hp hq hlt => ⟨hlt, ?_⟩, fun p hp => ?_⟩
  · obtain ⟨-, e, he, hpw⟩ := mem_takenWays.1 hp
    obtain ⟨-, g, hg, hqw⟩ := mem_takenWays.1 hq
    rw [hpw, hqw]
    exact (firstEntry_eq_some.1 hg).2 p.1 hlt e (firstEntry_eq_some.1 he).1
  · obtain ⟨hlt, e, he, hw⟩ := mem_takenWays.1 hp
    rw [hw]
    exact ⟨hlt.trans_le hn, (ownEntry_eq_some.1 (firstEntry_eq_some.1 he).1).2.symm,
      keptUsage_le (fun p hp => (h.2 p hp).2.2) (directoryLaw_rising h) _ _⟩

/-- The reconciliation changes statuses alone (R102). -/
theorem directoryLaw_reconciled {x y : Cd} (h : DirectoryLaw x) (ru : Ru)
    (hy : y.image = x.image.map fun p => (p.1, reconciledWay ru p.2)) : DirectoryLaw y := by
  rw [DirectoryLaw, hy]
  refine ⟨List.pairwise_map.2 h.1, fun p hp => ?_⟩
  obtain ⟨q, hq, rfl⟩ := List.mem_map.1 hp
  exact h.2 q hq

theorem rebuilt_cardLaw (h : DirectoryLaw s.cd) : CardLaw (rebuilt s) := by
  have htaken := takenWays_law s.sc.store h (n := 2048) (Nat.le_refl _)
  have himage := rebuilt_image s
  generalize takenWays s.sc.store s.cd.image 2048 = image at htaken himage
  refine ⟨directoryLaw_reconciled htaken (rebuilt s).ru himage, ?_⟩
  rw [StatusLaw, himage]
  intro p hp r hr
  obtain ⟨q, -, rfl⟩ := List.mem_map.1 hp
  simp [reconciledWay, show newestRecord q.2.entry.card (rebuilt s).ru = some r from hr]

theorem StoreOp.keeps_cardLaw (h : StoreOp s t) (hs : CardLaw s) : CardLaw t := by
  cases h with
  | still h =>
    obtain ⟨himage, -, -, -, -, hlist, -, -⟩ := h
    exact hs.of_eq himage hlist
  | enqueue | stage | land => exact hs.of_eq rfl rfl
  | beginWrite => exact hs.of_eq (by simp) (by simp)
  | countUsage card => exact hs.countUsage card
  | zeroUsage => exact hs.zeroUsage
  | replaceEntry found => exact hs.replaceEntry found
  | createEntry absent free => exact hs.createEntry absent free
  | dropEntry slot => exact hs.dropEntry slot
  | appendRecord => exact hs.appendRecord _
  | jumpRecord => exact hs.jumpRecord _
  | rebuilt => exact rebuilt_cardLaw hs.1
  | warmBlocks => exact hs.of_eq rfl rfl
  | coldBlocks | enterSafe => exact cardLaw_of_empty rfl

/-! ### The list -/

theorem revocationLaw_of_eq {x y : Ru} (h : RevocationLaw x) (hlist : y.list = x.list) (hmark : y.mark = x.mark) :
    RevocationLaw y := by
  simpa only [RevocationLaw, hlist, hmark] using h

/-- The sequences of a list rise by one and end at a mark (R90). -/
def Consecutive (l : List RevRecord) (mark : Nat) : Prop :=
  l.length ≤ mark ∧ l.map RevRecord.seq = (List.range l.length).map fun i => mark + 1 - l.length + i

theorem Consecutive.tail {l : List RevRecord} {mark : Nat} (h : Consecutive l mark) : Consecutive (l.drop 1) mark := by
  obtain ⟨hlen, hseqs⟩ := h
  cases l with
  | nil => exact ⟨hlen, hseqs⟩
  | cons q l =>
    rw [List.length_cons] at hlen
    simp only [List.map_cons, List.length_cons, List.range_succ_eq_map, List.map_map, List.cons.injEq] at hseqs
    refine ⟨Nat.le_of_succ_le hlen, hseqs.2.trans (List.map_congr_left fun i _ => ?_)⟩
    simp only [Function.comp_apply, List.drop_succ_cons, List.drop_zero]
    omega

theorem Consecutive.concat {l : List RevRecord} {mark : Nat} (h : Consecutive l mark) {r : RevRecord}
    (next : r.seq = mark + 1) : Consecutive (l ++ [r]) r.seq := by
  obtain ⟨hlen, hseqs⟩ := h
  rw [Consecutive, List.map_append, hseqs, List.length_append, List.length_singleton, List.range_succ, List.map_append, next]
  refine ⟨by omega, congrArg₂ _ (List.map_congr_left fun i _ => by omega) ?_⟩
  simp only [List.map_cons, List.map_nil, List.cons.injEq, and_true]
  omega

theorem revocationLaw_append {x : Ru} (h : RevocationLaw x) {r : RevRecord} (next : r.seq = x.mark + 1) :
    RevocationLaw (x.append r) := by
  obtain ⟨hlen, hlist⟩ := h
  have hkept : Consecutive (if listPlaces ≤ x.list.length then x.list.drop 1 else x.list) x.mark := by
    split
    · exact Consecutive.tail hlist
    · exact hlist
  have hroom : (if listPlaces ≤ x.list.length then x.list.drop 1 else x.list).length < 64 := by
    split
    · rw [List.length_drop]
      omega
    · exact Nat.lt_of_not_le ‹_›
  exact ⟨by simpa [Ru.append] using hroom, hkept.concat next⟩

theorem revocationLaw_jump (x : Ru) {r : RevRecord} (h : 0 < r.seq) :
    RevocationLaw { x with list := [r], base := r.seq - 1, mark := r.seq } :=
  ⟨by simp, h, by simp⟩

theorem revocationLaw_of_empty {x : Ru} (h : x.list = []) : RevocationLaw x := by simp [RevocationLaw, h]

theorem StoreOp.keeps_revocationLaw (h : StoreOp s t) (hs : RevocationLaw s.ru) : RevocationLaw t.ru := by
  cases h with
  | still h =>
    obtain ⟨-, -, -, -, -, hlist, hmark, -⟩ := h
    exact revocationLaw_of_eq hs hlist hmark
  | enqueue | stage | land | dropEntry | warmBlocks => exact revocationLaw_of_eq hs rfl rfl
  | beginWrite | countUsage | zeroUsage | replaceEntry | createEntry =>
    exact revocationLaw_of_eq hs (by simp) (by simp)
  | appendRecord next => exact revocationLaw_append hs next
  | jumpRecord ahead => exact revocationLaw_jump _ (Nat.zero_lt_of_lt ahead)
  | rebuilt => exact rebuildRevocations_law _ _
  | coldBlocks | enterSafe => exact revocationLaw_of_empty rfl

end

/-- Settles O9: each operation keeps the laws, so every step does. -/
theorem stepKeepsDirectoryAndRevocations : Obligations.StepKeepsDirectoryAndRevocations :=
  ⟨fun _ _ hs hstep => step_keeps StoreOp.keeps_cardLaw hstep hs,
    fun _ _ hs hstep => step_keeps (P := fun s => RevocationLaw s.ru) StoreOp.keeps_revocationLaw hstep hs⟩

end Sys2Proof.StoreProofs
end

section
/-! SUPPORT. The proofs of chapters 3, 5 and 9, continued: how the slots that CD holds are placed as the queue gives room (R61, R65). -/

namespace Sys2Proof.StoreProofs

open Sys2Proof.Machine Sys2Proof.Safety

/-! ## The slots that CD holds (R61, R65) -/

/-- The write of a directory slot as the image stands (R59). -/
def heldItem (image : List (Nat × DirWay)) (i : Nat) : StoreItem :=
  ⟨.dir i, ((Sparse.get i image).map fun w => w.entry.image).getD (List.replicate 16 0)⟩

theorem heldItem_eq (image : List (Nat × DirWay)) (i : Nat) : heldItem image i = ⟨.dir i, dirSlotImage image i⟩ := by
  unfold heldItem dirSlotImage
  cases Sparse.get i image <;> rfl

theorem beginWrite_of_busy {s : State} (h : s.sc.inFlight.isSome = true) : beginWrite s = s := by
  rcases beginWrite_cases s with ⟨-, heq⟩ | ⟨hn, -⟩ | ⟨_, _, hn, -⟩ | ⟨_, _, hn, -⟩
  · exact heq
  all_goals
    rw [hn] at h
    cases h

/-- A free store with an item placed begins the oldest staged record, else the oldest item (R61). -/
theorem beginWrite_of_free {s : State} (h : s.sc.inFlight = none) {q : StoreItem} {qs : List StoreItem}
    (hq : s.sc.queue = q :: qs) :
    beginWrite s = s.setSc { s.sc with
      inFlight := (s.sc.staging.head?.map fun r => StoreItem.mk (.log (r.index % 1024)) r.image).or (some q)
      staging := s.sc.staging.tail
      queue := if s.sc.staging = [] then qs else q :: qs } := by
  rcases beginWrite_cases s with ⟨hs, -⟩ | ⟨-, -, hnil, -⟩ | ⟨r, rest, -, hst, heq⟩ | ⟨i, rest, -, hst, hqueue, heq⟩
  · rw [h] at hs
    cases hs
  · cases hnil.symm.trans hq
  · rw [heq]
    simp [hst, hq, logSlot]
  · cases hqueue.symm.trans hq
    rw [heq]
    simp [hst]

theorem queueHasRoom_iff (n : Nat) (s : State) : queueHasRoom n s = true ↔ s.sc.queue.length + n ≤ 16 := decide_eq_true_iff

theorem queueHasRoom_one (s : State) : queueHasRoom 1 s = true ↔ s.sc.queue.length < 16 :=
  (queueHasRoom_iff 1 s).trans Nat.lt_iff_add_one_le.symm

/-- A held slot is placed while the queue has room; with none left it and the others go on waiting (R65). -/
theorem placeHeld_cons (i : Nat) (rest : List Nat) (s : State) :
    placeHeld (i :: rest) s =
      if s.sc.queue.length < 16 then placeHeld rest (beginWrite (enqueue [heldItem s.cd.image i] s))
      else s.setCd { s.cd with held := i :: rest } := by
  rw [heldItem_eq, placeHeld]
  by_cases room : s.sc.queue.length < 16
  · rw [if_pos ((queueHasRoom_one s).2 room), if_pos room]
    rfl
  · rw [if_neg fun h => room ((queueHasRoom_one s).1 h), if_neg room]

/-- While a write is in flight the held slots fill the queue up to its 16 places (R59, R65). -/
theorem placeHeld_of_busy (slots : List Nat) (s : State) (h : s.sc.inFlight.isSome = true) :
    placeHeld slots s = (s.setCd { s.cd with held := slots.drop (16 - s.sc.queue.length) }).setSc { s.sc with
      queue := s.sc.queue ++ (slots.take (16 - s.sc.queue.length)).map (heldItem s.cd.image) } := by
  induction slots generalizing s with
  | nil => simp [placeHeld, State.setCd, State.setSc]
  | cons i rest ih =>
    rw [placeHeld_cons]
    split
    · have hfree : 16 - s.sc.queue.length = 16 - (s.sc.queue.length + 1) + 1 := by omega
      rw [beginWrite_of_busy (s := enqueue [heldItem s.cd.image i] s) h, ih (enqueue [heldItem s.cd.image i] s) h, hfree]
      simp [enqueue, State.setSc, State.setCd]
    · have hfree : 16 - s.sc.queue.length = 0 := by omega
      simp [hfree, State.setCd, State.setSc]

/-- With the store free the first held slot that is placed lets it begin the oldest staged record, else the oldest item, and the
others take the room that is left (R61, R65). -/
theorem placeHeld_of_free (slots : List Nat) (s : State) (h : s.sc.inFlight = none) :
    let free := if s.sc.staging = [] ∧ s.sc.queue.length < 16 then 17 - s.sc.queue.length else 16 - s.sc.queue.length
    let placed := s.sc.queue ++ (slots.take free).map (heldItem s.cd.image)
    let first := if slots.take free = [] then none else
      (s.sc.staging.head?.map fun r => StoreItem.mk (.log (r.index % 1024)) r.image).or placed.head?
    placeHeld slots s = (s.setCd { s.cd with held := slots.drop free }).setSc { s.sc with
      inFlight := first
      staging := if first.isSome then s.sc.staging.tail else s.sc.staging
      queue := if first.isSome ∧ s.sc.staging = [] then placed.tail else placed } := by
  intro free placed first
  have hidle : s.sc = { s.sc with inFlight := none } := by rw [← h]
  cases slots with
  | nil =>
    simpa [placeHeld, State.setCd, State.setSc, first, placed] using hidle
  | cons i rest =>
    rw [placeHeld_cons]
    split
    · rename_i room
      have hfree : free = 16 - (if s.sc.staging = [] then s.sc.queue.length else s.sc.queue.length + 1) + 1 := by
        by_cases hstaging : s.sc.staging = []
        · simp only [free, hstaging, room, and_self, if_true]
          omega
        · simp only [free, hstaging, false_and, if_false]
          omega
      obtain ⟨q, qs, hq⟩ : ∃ q qs, s.sc.queue ++ [heldItem s.cd.image i] = q :: qs :=
        List.exists_cons_of_ne_nil (by simp)
      have hlen : qs.length = s.sc.queue.length := by
        simpa using (congrArg List.length hq).symm
      rw [beginWrite_of_free (s := enqueue [heldItem s.cd.image i] s) h hq, placeHeld_of_busy]
      · have hplaced : placed = q :: (qs ++ (rest.take (free - 1)).map (heldItem s.cd.image)) := by
          rw [← List.cons_append, ← hq]
          simp [placed, hfree]
        by_cases hstaging : s.sc.staging = []
        · simp [first, hplaced, hfree, hstaging, hlen, enqueue, State.setSc, State.setCd]
        · simp [first, hplaced, hfree, hstaging, hlen, enqueue, State.setSc, State.setCd]
      · simp
    · rename_i full
      have hfree : free = 0 := by
        simp only [free]
        split_ifs <;> omega
      simpa [first, placed, hfree, State.setCd, State.setSc] using hidle
end Sys2Proof.StoreProofs
end

section
/-! SUPPORT. The proofs of chapters 3, 5 and 9, continued: the store work of STARTING (R187). -/

namespace Sys2Proof.StoreProofs

open Sys2Proof.Machine Sys2Proof.Safety

/-! ## The store work of STARTING: O21 -/

/-- What the load leaves in a slot (R65, R66). -/
theorem get_takenWays {store : List Host.Cell} {before : List (Nat × DirWay)} {n i : Nat} (hi : i < n) :
    Sparse.get i (takenWays store before n) = (firstEntry store i).map fun e => ⟨e, keptUsage before i e.card⟩ := by
  refine Option.ext fun w => ?_
  rw [Sparse.get_eq_some_iff (takenWays_rising store before n), mem_takenWays, Option.map_eq_some_iff]
  simp [hi, eq_comm]

/-- What the load and the reconciliation leave in a slot (R65, R102). -/
theorem get_reconciled {store : List Host.Cell} {before : List (Nat × DirWay)} (ru : Ru) {n i : Nat} (hi : i < n) :
    Sparse.get i ((takenWays store before n).map fun p => (p.1, reconciledWay ru p.2)) =
      (firstEntry store i).map fun e => reconciledWay ru ⟨e, keptUsage before i e.card⟩ := by
  rw [Sparse.get_map, get_takenWays hi, Option.map_map]
  rfl

/-- The slots to be emptied after the load (R65). -/
theorem unusedSlots_eq (store : List Host.Cell) (before : List (Nat × DirWay)) (ru : Ru) (n : Nat) :
    unusedSlots store n = (List.range n).filter fun i => (parseDirEntry (readSlot store (.dir i))).isSome &&
      (Sparse.get i ((takenWays store before n).map fun p => (p.1, reconciledWay ru p.2))).isNone := by
  refine List.filter_congr fun i hi => ?_
  rw [get_reconciled ru (List.mem_range.1 hi), Option.isNone_map]

/-- The slots to be written after the reconciliation (R102). -/
theorem changedSlots_eq (store : List Host.Cell) (before : List (Nat × DirWay)) (ru : Ru) (n : Nat) :
    let image := (takenWays store before n).map fun p => (p.1, reconciledWay ru p.2)
    changedSlots (takenWays store before n) image = (List.range n).filter fun i =>
      (parseDirEntry (readSlot store (.dir i))).any fun e =>
        (Sparse.get i image).any fun w => decide (w.entry.blocked ≠ e.blocked) := by
  intro image
  have hrising : Sparse.rising image := List.pairwise_map.2 (takenWays_rising store before n)
  have hkeys : ∀ p ∈ image, p.1 < n := by
    intro p hp
    obtain ⟨q, hq, rfl⟩ := List.mem_map.1 hp
    exact (mem_takenWays.1 hq).1
  rw [changedSlots, Sparse.filter_keys hrising hkeys]
  refine List.filter_congr fun i hi => ?_
  simp only [image, get_reconciled ru (List.mem_range.1 hi), get_takenWays (List.mem_range.1 hi)]
  cases hfirst : firstEntry store i with
  | none => simp
  | some e =>
    rw [(ownEntry_eq_some.1 (firstEntry_eq_some.1 hfirst).1).1]
    simp [eq_comm]

/-- The store work rebuilds the state, then places the writes of the load and those of the reconciliation (R187). -/
theorem storeWork_eq (s : State) :
    storeWork s = placeHeld (unusedSlots s.sc.store 2048 ++
      changedSlots (takenWays s.sc.store s.cd.image 2048) (rebuilt s).cd.image) (rebuilt s) := by
  have hload := loadDirectory_eq s.sc.store s.cd.image
  simp only [storeWork, rebuilt, hload, State.setDl_cd, State.setRu_cd, State.setCd_cd]

theorem rebuilt_ru (s : State) : (rebuilt s).ru = rebuildRevocations s.sc.store s.ru := by
  simp only [rebuilt, State.setDl_ru, State.setRu_ru]

theorem rebuilt_eq (s : State) :
    rebuilt s = { s with cd := (rebuilt s).cd, ru := (rebuilt s).ru, dl := (rebuilt s).dl } := by
  simp only [rebuilt, State.setDl, State.setRu, State.setCd]

/-- The way of a slot after the store work: the entry of the slot that holds its card first, with the status of the newest record
for the card and the usage kept for it (R65, R66, R102). -/
theorem reconciled_way {store : List Host.Cell} {before : List (Nat × DirWay)} (ru : Ru) {n i : Nat} (hi : i < n) :
    let w := Sparse.get i ((takenWays store before n).map fun p => (p.1, reconciledWay ru p.2))
    (∀ x ∈ w, ∃ e ∈ ownEntry store i,
      x.entry = { e with blocked := ((newestRecord e.card ru).map RevRecord.block).getD e.blocked } ∧
      x.usage = (match Sparse.get i before with
        | some y => if y.entry.card = e.card then y.usage else 0
        | none => 0)) ∧
    (∀ e ∈ ownEntry store i, (∀ j < i, j / 8 = i / 8 → ∀ g ∈ ownEntry store j, g.card ≠ e.card) →
      w.isSome = true) := by
  intro w
  simp only [w, get_reconciled ru hi]
  refine ⟨fun x hx => ?_, fun e he hnew => ?_⟩
  · obtain ⟨e, he, rfl⟩ := Option.map_eq_some_iff.1 hx
    exact ⟨e, (firstEntry_eq_some.1 he).1, rfl, rfl⟩
  · have hfirst : firstEntry store i = some e := by
      refine firstEntry_eq_some.2 ⟨he, fun j hj g hg hcard => hnew j hj ?_ g hg hcard⟩
      rw [← (ownEntry_eq_some.1 hg).2, ← (ownEntry_eq_some.1 he).2, hcard]
    simp [hfirst]

/-- The rebuilt list (R101): what it holds, what its mark is, and that it ends only where a record is missing. -/
theorem rebuildRevocations_list (store : List Host.Cell) (x : Ru) :
    let base := storedBase store
    let t := rebuildRevocations store x
    (∀ r ∈ t.list, takingPart store base (r.seq % 64) = some r) ∧
    ((∀ i < 64, takingPart store base i = none) → t.list = [] ∧ t.mark = base) ∧
    (∀ i < 64, ∀ r ∈ takingPart store base i, r.seq ≤ t.mark ∧ t.list ≠ []) ∧
    (base < t.mark → t.mark - t.list.length = base ∨ t.list.length = 64 ∨
      ∀ r ∈ takingPart store base ((t.mark - t.list.length) % 64), r.seq ≠ t.mark - t.list.length) := by
  intro base t
  obtain ⟨-, hseqs, hsub, hmax⟩ := rebuildRevocations_run store x
  obtain ⟨hnone, hsome⟩ := rebuildRevocations_mark store x
  have hfound {i : Nat} (hi : i < 64) {r : RevRecord} (hr : takingPart store base i = some r) :
      r ∈ storedRecords store base := List.mem_filterMap.2 ⟨i, List.mem_range.2 hi, hr⟩
  refine ⟨fun r hr => mem_storedRecords.1 (hsub r hr), fun h => ?_, fun i hi r hr => ?_, fun hlt => ?_⟩
  · have hempty : storedRecords store base = [] :=
      List.filterMap_eq_nil_iff.2 fun i hi => h i (List.mem_range.1 hi)
    exact ⟨(hnone hempty).2, (hnone hempty).1⟩
  · have hr' := hfound hi hr
    obtain ⟨hmark, hle, q, hq, hqmark⟩ := hsome (List.ne_nil_of_mem hr')
    refine ⟨hle r hr', fun hnil => ?_⟩
    have hlen : (rebuildRevocations store x).list.length = 0 := by rw [show (rebuildRevocations store x).list = [] from hnil]; rfl
    rw [hlen] at hmax
    rcases hmax with h | h
    · cases h
    · exact h q hq (hqmark.trans hmark)
  · by_cases hempty : storedRecords store base = []
    · exact absurd hlt (by rw [show t.mark = base from (hnone hempty).1]; exact lt_irrefl _)
    · right
      rw [show t.mark = _ from (hsome hempty).1]
      exact hmax.imp_right fun h r hr => h r (hfound (Nat.mod_lt _ (by decide)) hr)

theorem mem_of_storedIndex {store : List Host.Cell} {i n : Nat} (hi : i < 1024) (hn : storedIndex store i = some n) :
    n ∈ storedIndices store := by
  rw [storedIndices_eq]
  exact List.mem_filterMap.2 ⟨i, List.mem_range.2 hi, hn⟩

/-- With no record in the log both indices are 0 (R163). -/
theorem scanLog_empty {store : List Host.Cell} (h : ∀ i < 1024, storedIndex store i = none) : scanLog store = ⟨0, 0⟩ := by
  refine scanLog_of_none ?_
  rw [storedIndices_eq]
  exact List.filterMap_eq_nil_iff.2 fun i hi => h i (List.mem_range.1 hi)

/-- The log below its highest index (R163, log entry 24). -/
theorem scanLog_highest {store : List Host.Cell} {i h : Nat} (hi : i < 1024) (hh : storedIndex store i = some h)
    (hmax : ∀ j < 1024, ∀ n ∈ storedIndex store j, n ≤ h) :
    let t := scanLog store
    t.next = min 4294967295 (h + 1) ∧ t.oldest ≤ h ∧ h < t.oldest + 1024 ∧
    (∀ n < h + 1 - t.oldest, storedIndex store ((t.oldest + n) % 1024) = some (t.oldest + n)) ∧
    (t.oldest = 0 ∨ h + 1 = t.oldest + 1024 ∨
      storedIndex store ((t.oldest - 1) % 1024) ≠ some (t.oldest - 1)) := by
  intro t
  have hin := mem_of_storedIndex hi hh
  have htop : highest (storedIndices store) = h := by
    obtain ⟨hmem, hle⟩ := highest_spec (storedIndices store)
    refine Nat.le_antisymm ?_ (hle h hin)
    rcases hmem with h0 | hm
    · omega
    · exact hmax _ (Nat.mod_lt _ (by decide)) _ (mem_storedIndices.1 hm)
  have hrun := lowestOfRun_spec (storedIndices store) 1023 h
  simp only [t, scanLog_eq (List.ne_nil_of_mem hin), htop]
  generalize lowestOfRun (storedIndices store) 1023 h = low at hrun ⊢
  obtain ⟨hlow, hfar, hall, hstop⟩ := hrun
  refine ⟨rfl, hlow, by omega, fun n hn => ?_, ?_⟩
  · rcases Nat.eq_or_lt_of_le (show low + n ≤ h by omega) with he | hlt
    · rw [he]
      exact mem_storedIndices.1 hin
    · exact mem_storedIndices.1 (hall _ (by omega) hlt)
  · rcases hstop with h0 | hfull | hnot
    · exact .inl h0
    · exact .inr (.inl (by omega))
    · exact .inr (.inr fun hsome => hnot (mem_of_storedIndex (Nat.mod_lt _ (by decide)) hsome))

/-- A log whose records stop short of the last index has room for one more (R159, R163). -/
theorem scanLog_nonempty {store : List Host.Cell} (hsome : ∃ i < 1024, storedIndex store i ≠ none)
    (hlast : ∀ i < 1024, storedIndex store i ≠ some 4294967295) : (scanLog store).oldest < (scanLog store).next := by
  obtain ⟨i, hi, hne⟩ := hsome
  obtain ⟨n, hn⟩ := Option.ne_none_iff_exists'.1 hne
  have htop : highest (storedIndices store) < 4294967295 := by
    rcases (highest_spec (storedIndices store)).1 with h0 | hm
    · omega
    · have hneq : highest (storedIndices store) ≠ 4294967295 := fun he =>
        hlast _ (Nat.mod_lt _ (by decide)) (by rw [mem_storedIndices.1 hm, he])
      have := storedIndices_lt hm
      omega
  have hrun := lowestOfRun_spec (storedIndices store) 1023 (highest (storedIndices store))
  simp only [scanLog_eq (List.ne_nil_of_mem (mem_of_storedIndex hi hn)), lastIndex]
  generalize lowestOfRun (storedIndices store) 1023 (highest (storedIndices store)) = low at hrun ⊢
  obtain ⟨hlow, -⟩ := hrun
  omega

/-- The slots to be written at the end of the store work, in the order of their placing (R65, R102). -/
def storeWorkSlots (store : List Host.Cell) (image : List (Nat × DirWay)) : List Nat :=
  ((List.range 2048).filter fun i =>
    (parseDirEntry (readSlot store (.dir i))).isSome && (Sparse.get i image).isNone) ++
  (List.range 2048).filter fun i => (parseDirEntry (readSlot store (.dir i))).any fun e =>
    (Sparse.get i image).any fun w => decide (w.entry.blocked ≠ e.blocked)

theorem storeWork_placed (s : State) : storeWork s = placeHeld (storeWorkSlots s.sc.store (rebuilt s).cd.image) (rebuilt s) := by
  rw [storeWork_eq, rebuilt_image]
  have hunused := unusedSlots_eq s.sc.store s.cd.image (rebuilt s).ru 2048
  have hchanged := changedSlots_eq s.sc.store s.cd.image (rebuilt s).ru 2048
  rw [storeWorkSlots, ← hunused, ← hchanged]

/-- What placing held slots leaves of everything but SC and CD's held slots. -/
theorem placeHeld_eq (slots : List Nat) (s : State) :
    placeHeld slots s = { s with cd := { s.cd with held := (placeHeld slots s).cd.held }, sc := (placeHeld slots s).sc } := by
  cases hflight : s.sc.inFlight with
  | none =>
    rw [placeHeld_of_free slots s hflight]
    rfl
  | some i =>
    rw [placeHeld_of_busy slots s (by rw [hflight]; rfl)]
    rfl

/-- The store work, block by block (R187). -/
theorem storeWork_blocks (s : State) :
    let t := storeWork s
    t = { s with cd := t.cd, sc := t.sc, ru := t.ru, dl := t.dl } ∧
    t.cd.image = (rebuilt s).cd.image ∧ t.ru = (rebuilt s).ru ∧ t.dl = scanLog s.sc.store := by
  intro t
  have hplaced : t = _ := storeWork_placed s
  generalize hslots : storeWorkSlots s.sc.store (rebuilt s).cd.image = slots at hplaced
  have hframe := placeHeld_eq slots (rebuilt s)
  have hbase := rebuilt_eq s
  have hdl := rebuilt_dl s
  rw [← hplaced] at hframe
  generalize rebuilt s = r at hframe hbase hdl ⊢
  generalize t = t at hframe ⊢
  obtain ⟨cd, ru, dl, rfl⟩ : ∃ cd ru dl, r = { s with cd := cd, ru := ru, dl := dl } := ⟨_, _, _, hbase⟩
  rw [hframe]
  exact ⟨rfl, rfl, rfl, hdl⟩

/-- Settles O21: the blocks that the store work rebuilds, then the writes that it places. -/
theorem storeWorkRebuildsTheState : Obligations.StoreWorkRebuildsTheState := by
  intro s d hstage hidle hdir u slotOf own base revOf logOf
  have hu : u = s := FillProofs.advance_of_atStage hstage d
  have hexec : exec (.startingStoreWork d) s = .next (storeWork (u.setCl { u.cl with stage := .derivation })) := by
    rw [hu]
    simp [exec, execStartingStoreWork, FillProofs.advance_of_atStage hstage, hstage, hidle]
  rw [← hu] at hidle hdir
  clear_value u
  obtain ⟨hframe, himage, hru, hdl⟩ := storeWork_blocks (u.setCl { u.cl with stage := .derivation })
  have hplaced := storeWork_placed (u.setCl { u.cl with stage := .derivation })
  have hload := rebuilt_image (u.setCl { u.cl with stage := .derivation })
  have hdirectory := (rebuilt_cardLaw (s := u.setCl { u.cl with stage := .derivation }) hdir).1
  have hsc := rebuilt_sc (u.setCl { u.cl with stage := .derivation })
  have hlist := rebuildRevocations_list u.sc.store u.ru
  rw [rebuilt_ru] at hload hru
  simp only [State.setCl_sc, State.setCl_cd, State.setCl_ru] at *
  generalize rebuilt (u.setCl { u.cl with stage := .derivation }) = r at *
  generalize storeWork (u.setCl { u.cl with stage := .derivation }) = t at *
  have hrevOf (i : Nat) : revOf i = takingPart u.sc.store base i := (takingPart_eq u.sc.store base i).symm
  obtain ⟨hlisted, hnone, hreached, hends⟩ := hlist
  rw [← hru] at hlisted hnone hreached hends
  refine ⟨t, hexec, hframe, ?placed, ?directory, ?ways, ?ru, ?law, ?listed, ?none, ?reached, ?ends,
    ?empty, ?highest, ?nonempty, ?ordered⟩
  case placed =>
    have hfree : r.sc.inFlight = none := by rw [hsc, hidle]
    have heq := placeHeld_of_free (storeWorkSlots u.sc.store r.cd.image) r hfree
    rw [← hplaced, hsc, ← himage] at heq
    exact ⟨congrArg (fun t => t.cd.held) heq, congrArg State.sc heq⟩
  case directory =>
    unfold DirectoryLaw at hdirectory ⊢
    rw [himage]
    exact hdirectory
  case ways =>
    intro i hi
    have hway := reconciled_way (store := u.sc.store) (before := u.cd.image) t.ru hi
    rw [hru, ← hload, ← himage] at hway
    rw [hru]
    exact hway
  case ru => rw [hru]; rfl
  case law => rw [hru]; exact rebuildRevocations_law _ _
  case listed => exact fun x hx => (hrevOf _).trans (hlisted x hx)
  case none => exact fun h => hnone fun i hi => (hrevOf i).symm.trans (h i hi)
  case reached => exact fun i hi x hx => hreached i hi x ((hrevOf i).symm.trans hx)
  case ends => exact fun h => (hends h).imp_right fun h => h.imp_right fun h x hx => h x ((hrevOf _).symm.trans hx)
  case empty => exact fun h => hdl.trans (scanLog_empty h)
  case highest =>
    rw [hdl]
    exact fun i hi h hh hmax => scanLog_highest hi hh hmax
  case nonempty =>
    rw [hdl]
    exact scanLog_nonempty
  case ordered =>
    rw [hdl]
    exact (scanLog_law u.sc.store).1

end Sys2Proof.StoreProofs
end

section
/-! SUPPORT. The proofs of chapters 3, 5 and 9, continued: what reports and counts do to ACU and to the store, and how items and log records wait (R59 to R61, R159). -/

namespace Sys2Proof.StoreProofs

open Sys2Proof.Machine Sys2Proof.Safety Sys2Proof.FillProofs

/-! ## Counters and reports (R116, R165 to R170) -/

theorem get_set_same (k : Counter) (x : Counters) (v : Nat) : (x.set v k).get k = v := by
  cases k <;> simp [Counters.set, Counters.get]

theorem get_set_txAbandoned {j : Counter} (h : j ≠ .txAbandoned) (x : Counters) (v : Nat) :
    (x.set v .txAbandoned).get j = x.get j := by
  cases j with
  | txAbandoned => exact absurd rfl h
  | _ => rfl

/-- Placing a frame moves TX_ABANDONED alone among the counters (R116). -/
theorem placeFrame_counter {j : Counter} (h : j ≠ .txAbandoned) (f : TxFrame) (s : State) :
    (placeFrame f s).acu.live.get j = s.acu.live.get j := by
  rcases placeFrame_cases f s with ⟨-, he⟩ | ⟨-, he⟩ | ⟨old, -, he⟩ | ⟨-, he⟩ <;> rw [he]
  · rfl
  · exact get_set_txAbandoned h _ _
  · exact get_set_txAbandoned h _ _

theorem offerAlarm_counter {j : Counter} (h : j ≠ .txAbandoned) (s : State) :
    (offerAlarm s).acu.live.get j = s.acu.live.get j := by
  unfold offerAlarm
  split
  · rfl
  · exact placeFrame_counter h _ _

theorem counterFullByAlarm_counter {j : Counter} (h : j ≠ .txAbandoned) (s : State) :
    (counterFullByAlarm s).acu.live.get j = s.acu.live.get j := by
  unfold counterFullByAlarm
  split
  · exact offerAlarm_counter h _
  · rfl

theorem announce_counter {j : Counter} (h : j ≠ .txAbandoned) (s : State) :
    (announce s).acu.live.get j = s.acu.live.get j := by
  simp only [announce]
  split
  · exact (counterFullByAlarm_counter h _).trans (offerAlarm_counter h s)
  · exact offerAlarm_counter h s

theorem occur_counter {j : Counter} (h : j ≠ .txAbandoned) (k : Cond) (c : Col) (s : State) :
    (occur k c s).acu.live.get j = s.acu.live.get j := by
  unfold occur
  split
  · rcases takeEdge_cases k c true s with ⟨-, he⟩ | ⟨-, he⟩ <;> rw [he]
    exact announce_counter h _
  · rfl

/-- A count adds to its counter, saturating at the top (R169). -/
theorem count_counter {k : Counter} (h : k ≠ .txAbandoned) (n : Nat) (s : State) :
    (count k n s).acu.live.get k = min 65535 (s.acu.live.get k + n) := by
  have hadd : (addCount k n s).acu.live.get k = min 65535 (s.acu.live.get k + n) := get_set_same _ _ _
  unfold count
  split
  · exact (occur_counter h _ _ _).trans hadd
  · exact hadd

theorem count_report (k : Counter) (n : Nat) (s : State) : ReportFrame s (count k n s) := by
  unfold count
  split
  · exact (addCount_report k n s).trans (occur_report _ _ _)
  · exact addCount_report k n s

/-! ## Reports do not read the store -/

theorem placeFrame_setSc (f : TxFrame) (s : State) (x : Sc) : placeFrame f (s.setSc x) = (placeFrame f s).setSc x := by
  have hcase : placementOf f (s.setSc x) = placementOf f s := rfl
  unfold placeFrame
  rw [hcase]
  cases placementOf f s <;> rfl

theorem offerAlarm_setSc (s : State) (x : Sc) : offerAlarm (s.setSc x) = (offerAlarm s).setSc x := by
  have hqueued : (s.setSc x).queued .alarm = s.queued .alarm := rfl
  unfold offerAlarm
  rw [hqueued, placeFrame_setSc]
  split <;> rfl

theorem counterFullByAlarm_setSc (s : State) (x : Sc) :
    counterFullByAlarm (s.setSc x) = (counterFullByAlarm s).setSc x := by
  have hsets : newlySets (s.setSc x) .counterFull 0 true = newlySets s .counterFull 0 true := rfl
  unfold counterFullByAlarm
  rw [hsets]
  split
  · exact offerAlarm_setSc (setPending .counterFull 0 s) x
  · rfl

theorem announce_setSc (s : State) (x : Sc) : announce (s.setSc x) = (announce s).setSc x := by
  have hcond : (!(s.setSc x).queued .alarm && placementFills alarmFrame (s.setSc x)) =
      (!s.queued .alarm && placementFills alarmFrame s) := rfl
  simp only [announce, hcond, offerAlarm_setSc]
  split
  · exact counterFullByAlarm_setSc _ x
  · rfl

theorem occur_setSc (k : Cond) (c : Col) (s : State) (x : Sc) : occur k c (s.setSc x) = (occur k c s).setSc x := by
  have hrun : (s.setSc x).inRun = s.inRun := rfl
  have hsets : newlySets (s.setSc x) k c true = newlySets s k c true := rfl
  unfold occur takeEdge
  rw [hrun, hsets]
  split_ifs
  · exact announce_setSc (setPending k c s) x
  all_goals rfl

theorem count_setSc (k : Counter) (n : Nat) (s : State) (x : Sc) : count k n (s.setSc x) = (count k n s).setSc x := by
  have hcond : reachesTop k n (s.setSc x) = reachesTop k n s := rfl
  unfold count
  rw [hcond]
  split
  · exact occur_setSc .counterFull 0 (addCount k n s) x
  · rfl

/-! ## What waits for the store: O17 -/

theorem placeItems_of_busy {s : State} (h : s.sc.inFlight.isSome = true) (items : List StoreItem) :
    placeItems items s = { s with sc := { s.sc with queue := s.sc.queue ++ items } } :=
  beginWrite_of_busy (s := s.setSc { s.sc with queue := s.sc.queue ++ items }) h

theorem placeItems_of_idle {s : State} (hflight : s.sc.inFlight = none) (hstaging : s.sc.staging = [])
    (hqueue : s.sc.queue = []) (i : StoreItem) (rest : List StoreItem) :
    placeItems (i :: rest) s = { s with sc := { s.sc with queue := rest, inFlight := some i } } := by
  simp only [placeItems, beginWrite, State.setSc, hflight, hstaging, hqueue, List.nil_append]

/-- A record that is staged (R60, R61, R159). -/
theorem staged_waits (c : Col) (e : Nat) (body : LogBody) (s : State) :
    let r : LogRecord := ⟨s.dl.next, s.tu.clock, s.tu.hops, c, e, body⟩
    let staged := (s.setSc { s.sc with staging := s.sc.staging ++ [r] }).setDl s.dl.taken
    let t := beginWrite staged
    t = { s with sc := t.sc, dl := t.dl } ∧ t.dl = s.dl.taken ∧
    (s.sc.inFlight.isSome = true → t.sc = { s.sc with staging := s.sc.staging ++ [r] }) ∧
    (s.sc.inFlight = none → s.sc.staging = [] →
      t.sc = { s.sc with inFlight := some ⟨.log (r.index % 1024), r.image⟩ }) := by
  intro r staged t
  refine ⟨?_, ?_, fun h => ?_, fun h hempty => ?_⟩
  · rcases beginWrite_cases staged with ⟨-, h⟩ | ⟨-, -, -, h⟩ | ⟨_, _, -, -, h⟩ | ⟨_, _, -, -, h⟩ <;>
      simp only [t, h] <;> rfl
  · exact (beginWrite_frame staged).2.2.2.2.2.2.2.2.2.2.2.1
  · exact congrArg State.sc (beginWrite_of_busy (s := staged) h)
  · simp [t, staged, beginWrite, h, hempty, logSlot]

/-- Settles O17: items are appended to the queue; a record is staged, or lost, counted and raised. -/
theorem itemsAndRecordsWaitForTheStore : Obligations.ItemsAndRecordsWaitForTheStore := by
  refine ⟨fun i rest s => ⟨fun h => placeItems_of_busy h _, fun h h' h'' => placeItems_of_idle h h' h'' i rest⟩, ?_⟩
  intro c e body s t r
  rcases offerRecord_cases c e body s with ⟨room, left, heq⟩ | ⟨lost, heq⟩
  · obtain ⟨hblocks, hdl, hbusy, hfree⟩ := staged_waits c e body s
    rw [← heq] at hblocks hdl hbusy hfree
    refine ⟨fun _ _ => ⟨hblocks, ?_, ?_, hbusy, hfree⟩, fun h => ?_⟩
    · rw [hdl]; rfl
    · rw [hdl]; rfl
    · simp only [stagingPlaces, lastIndex] at room left
      omega
  · have hreport : ReportFrame s t := by
      rw [show t = _ from heq]
      exact (count_report .logLost 1 s).trans (occur_report .logLost 0 _)
    refine ⟨fun room left => ?_, fun _ => ⟨?_, ?_, fun hrun hmask => ?_⟩⟩
    · simp only [stagingPlaces, lastIndex] at lost
      omega
    · exact hreport.blocks
    · rw [show t = _ from heq]
      exact (occur_counter (j := .logLost) (by decide) _ _ _).trans (count_counter (k := .logLost) (by decide) 1 s)
    · rw [show t = _ from heq]
      have hcount := count_report .logLost 1 s
      exact occur_sets (hcount.inRun.trans hrun) (by rw [hcount.cfg]; exact hmask)

end Sys2Proof.StoreProofs
end

section
/-! SUPPORT. The proofs of chapters 3, 5 and 9, continued: power coming and going, and a store write that is complete (R61, R63, R65, R183). -/

namespace Sys2Proof.StoreProofs

open Sys2Proof.Machine Sys2Proof.Safety Sys2Proof.FillProofs

/-! ## Power (R63, R183): O18 -/

theorem beginWork_coldBlocks (s : State) (resetLow : Bool) :
    beginWork ((coldBlocks s).setCl { Cl.cold with resetLow := resetLow }) =
      { coldBlocks s with cl := { Cl.cold with resetLow := resetLow }, au := Quad.all .starting } := rfl

/-- The part after power came: cold, with the store and a write in flight as they stand (R183). -/
theorem startPowered_eq (s : State) : startPowered s = { State.reset with
    cl := { Cl.cold with resetLow := s.cl.resetLow }
    sc := { Sc.cold with store := s.sc.store, inFlight := s.sc.inFlight }
    au := if s.cl.resetLow then Quad.all .afterReset else Quad.all .starting
    freeIndex := s.freeIndex
    pending := s.pending } := by
  simp only [startPowered]
  split
  · rename_i h
    have hlow : s.cl.resetLow = true := h
    rw [if_pos hlow]
    rfl
  · rename_i h
    have hlow : s.cl.resetLow = false := Bool.eq_false_iff.2 h
    refine (beginWork_coldBlocks s s.cl.resetLow).trans ?_
    rw [hlow]
    rfl

/-- Each bit of a cut byte is the old or the new one (R63). -/
theorem cutByte_bit (mask old new : Byte) {b : Nat} (hb : b < 8) :
    (cutByte mask old new).getLsbD b = old.getLsbD b ∨ (cutByte mask old new).getLsbD b = new.getLsbD b := by
  simp only [cutByte, BitVec.getLsbD_or, BitVec.getLsbD_and, BitVec.getLsbD_not, hb, decide_true, Bool.true_and]
  cases mask.getLsbD b <;> simp

theorem cutBytes_bit (draw : Nat) (old new : List Byte) {j : Nat} (hj : j < new.length) {b : Nat} (hb : b < 8) :
    ((cutBytes draw old new).getD j 0).getLsbD b = (byteAt old j).getLsbD b ∨
    ((cutBytes draw old new).getD j 0).getLsbD b = (new.getD j 0).getLsbD b := by
  have hbyte : (cutBytes draw old new).getD j 0 = cutByte (Config.freeCut draw j) (byteAt old j) (byteAt new j) := by
    simp [cutBytes, hj]
  rw [hbyte]
  exact cutByte_bit _ _ _ hb

theorem readSlot_byteAt (m : List Host.Cell) (sl : Slot) {j : Nat} (hj : j < sl.size) :
    byteAt (readSlot m sl) j = Memory.read m (sl.address + j) := by
  simp [byteAt, readSlot, Memory.readBytes, hj]

/-- What a write that the loss of power cuts leaves in the store (R63). -/
theorem cutWrite_store {s : State} {i : StoreItem} (hflight : s.sc.inFlight = some i) (hwf : Memory.wf s.sc.store = true)
    (hfit : i.bytes.length = i.slot.size) :
    let t := cutWrite s
    (∀ a : Nat, a < i.slot.address ∨ i.slot.address + i.slot.size ≤ a →
      Memory.read t.sc.store a = Memory.read s.sc.store a) ∧
    (∀ j < i.slot.size, ∀ b < 8,
      (Memory.read t.sc.store (i.slot.address + j)).getLsbD b =
          (Memory.read s.sc.store (i.slot.address + j)).getLsbD b ∨
      (Memory.read t.sc.store (i.slot.address + j)).getLsbD b = (i.bytes.getD j 0).getLsbD b) := by
  intro t
  let mixed := cutBytes s.freeIndex (readSlot s.sc.store i.slot) i.bytes
  have hstore : t.sc.store = Memory.writeBytes s.sc.store i.slot.address mixed := by simp only [t, cutWrite, hflight]; rfl
  have hlen : mixed.length = i.slot.size := by simp [mixed, cutBytes, hfit]
  rw [hstore]
  refine ⟨fun a ha => ?_, fun j hj b hb => ?_⟩
  · exact Memory.read_writeBytes_outside _ _ _ _ (by rw [hlen]; exact ha)
  · rw [Memory.read_writeBytes_inside _ _ _ _ hwf (by rw [hlen]; exact hj), ← readSlot_byteAt s.sc.store i.slot hj]
    exact cutBytes_bit _ _ _ (by rw [hfit]; exact hj) hb

theorem cutWrite_frame (s : State) : (cutWrite s).cl = s.cl ∧ (cutWrite s).pending = s.pending ∧
    (cutWrite s).sc.inFlight = none := by
  unfold cutWrite
  split
  · exact ⟨rfl, rfl, ‹_›⟩
  · exact ⟨rfl, rfl, rfl⟩

/-- The part without power: the store with a write cut short, and nothing else kept (R63). -/
theorem losePower_eq (s : State) : losePower s = { State.reset with
    cl := { Cl.cold with powered := false, resetLow := s.cl.resetLow }
    sc := { Sc.cold with store := (cutWrite s).sc.store }
    au := Quad.all .afterReset
    freeIndex := (cutWrite s).freeIndex
    pending := s.pending } := by
  obtain ⟨hcl, hpending, hflight⟩ := cutWrite_frame s
  simp only [losePower, coldBlocks, State.setCl, Sc.afterCold, hcl, hpending, hflight]
  rfl

/-- Settles O18: the start of an unpowered part, and what the loss of power leaves. -/
theorem powerStartsAndStopsThePart : Obligations.PowerStartsAndStopsThePart := by
  refine ⟨fun s d hoff => ?_, fun s d hon => ?_, fun s d hon hwf hfit => ?_⟩
  · have hu : s.advance d = s := advance_of_not_inRun s d (by simp [State.inRun, hoff])
    simp [exec, execPowerOn, hu, hoff, startPowered_eq]
  · have hpowered : (s.advance d).cl.powered = true := by simpa using hon
    refine ⟨losePower (s.advance d), by simp only [exec, execLossOfPower, hpowered, if_true], ?_⟩
    have hoff : (losePower (s.advance d)).cl.powered = false := by rw [losePower_eq]
    have hstill : (losePower (s.advance d)).advance 0 = losePower (s.advance d) :=
      advance_of_not_inRun _ 0 (by simp [State.inRun, hoff])
    simp only [exec, execPowerOn, hpowered, hstill, hoff, if_true, Bool.false_eq_true, if_false]
  · have hpowered : (s.advance d).cl.powered = true := by simpa using hon
    obtain ⟨hcl, -, -, hsc, -, -, -, -, hpending⟩ := advance_frame s d
    have heq := losePower_eq (s.advance d)
    rw [hcl, hpending] at heq
    have hexec : exec (.lossOfPower d) s = .next (losePower (s.advance d)) := by
      simp only [exec, execLossOfPower, hpowered, if_true]
    refine ⟨losePower (s.advance d), hexec, ?_, fun hfree => ?_, fun i hi => ?_⟩
    · rw [heq]
    · rw [heq]
      simp only [cutWrite, hsc, hfree]
    · have hflight : (s.advance d).sc.inFlight = some i := hsc ▸ hi
      rw [heq]
      have hcut := cutWrite_store hflight (by rw [hsc]; exact hwf) (hfit.2 i hi)
      rw [hsc] at hcut
      exact hcut

/-! ## A write that is complete (R57, R61, R65): O41 -/

/-- The write that the store begins when it is free, and what then waits in the queue and is held (R61, R65). -/
theorem placeHeld_beginWrite (s : State) (hfree : s.sc.inFlight = none) :
    let nothing := s.sc.staging = [] ∧ s.sc.queue = []
    let waiting := if s.sc.staging = [] then s.sc.queue.tail else s.sc.queue
    let free := if nothing then 17 else 16 - waiting.length
    let placed := waiting ++ (s.cd.held.take free).map (heldItem s.cd.image)
    placeHeld (beginWrite s).cd.held (beginWrite s) = (s.setCd { s.cd with held := s.cd.held.drop free }).setSc { s.sc with
      staging := s.sc.staging.tail
      queue := if nothing then placed.tail else placed
      inFlight := match s.sc.staging, s.sc.queue with
        | r :: _, _ => some ⟨.log (r.index % 1024), r.image⟩
        | [], q :: _ => some q
        | [], [] => placed.head? } := by
  intro nothing waiting free placed
  rcases beginWrite_cases s with ⟨hbusy, -⟩ | ⟨-, hstaging, hqueue, heq⟩ | ⟨r, rest, -, hstaging, heq⟩ |
    ⟨q, qs, -, hstaging, hqueue, heq⟩
  · rw [hfree] at hbusy
    cases hbusy
  · rw [heq, placeHeld_of_free _ s hfree]
    have hplaced : placed = (s.cd.held.take 17).map (heldItem s.cd.image) := by
      simp [placed, waiting, free, nothing, hstaging, hqueue]
    cases hheld : s.cd.held with
    | nil => simp [hplaced, hheld, hstaging, hqueue, nothing, State.setCd, State.setSc]
    | cons i rest => simp [hplaced, hheld, hstaging, hqueue, nothing, free, State.setCd, State.setSc]
  · rw [heq, placeHeld_of_busy _ _ rfl]
    simp [nothing, placed, waiting, free, hstaging, logSlot, State.setCd, State.setSc]
  · rw [heq, placeHeld_of_busy _ _ rfl]
    simp [nothing, placed, waiting, free, hstaging, hqueue, State.setCd, State.setSc]

theorem completeWrite_eq (i : StoreItem) (s : State) :
    completeWrite i s =
      let t := (count .storeWrites 1 s).setSc { s.sc with store := writeSlot s.sc.store i, inFlight := none }
      placeHeld (beginWrite t).cd.held (beginWrite t) := by
  rw [completeWrite, count_setSc]

/-- Settles O41: the write lands, is counted, and the next one begins. -/
theorem storeWritesLandAndContinue : Obligations.StoreWritesLandAndContinue := by
  intro s d hon hwf hfit u
  obtain ⟨hcl, -, -, hsc, -⟩ := advance_frame s d
  have hpowered : u.cl.powered = true := by rw [show u.cl = s.cl from hcl, hon]
  have hu : u.sc = s.sc := hsc
  refine ⟨fun hfree => ?_, fun i hi => ?_⟩
  · have hidle : u.sc.inFlight = none := by rw [hu, hfree]
    simp only [exec, execStoreWriteComplete, u, hpowered, hidle, if_true]
  · intro nothing waiting free placed
    have hflight : u.sc.inFlight = some i := hu ▸ hi
    have hexec : exec (.storeWriteComplete d) s = .next (completeWrite i u) := by
      simp only [exec, execStoreWriteComplete, u, hpowered, hflight, if_true]
    have hcd : (count .storeWrites 1 u).cd = u.cd := (count_frame .storeWrites 1 u).2.2.2.2.1
    have hcounted := count_counter (k := .storeWrites) (by decide) 1 u
    refine ⟨completeWrite i u, hexec, ?_⟩
    rw [completeWrite_eq, placeHeld_beginWrite _ rfl]
    generalize count .storeWrites 1 u = w at hcd hcounted ⊢
    simp only [State.setSc_cd, hcd]
    refine ⟨rfl, ?_, fun a ha => ?_, hcounted⟩
    · exact readSlot_writeSlot_same _ i (by rw [hu]; exact hwf) (hfit.2 i hi)
    · rw [← hu]
      exact Memory.read_writeBytes_outside _ _ _ _ (by rw [hfit.2 i hi]; exact ha)

end Sys2Proof.StoreProofs
end

section
/-! SUPPORT. The proofs of chapters 3, 5 and 9, continued: frames that reach the owner of their kind, and the directory requests (R51 to R54). -/

namespace Sys2Proof.StoreProofs

open Sys2Proof.Machine Sys2Proof.Safety Sys2Proof.FillProofs

/-! ## Frames that reach their owner (R105 to R110) -/

theorem kindOf_code (k : Kind) : kindOf k.code = some k := by cases k <;> rfl

/-- A kind that some source may send has an owner, and no source of class none may send any (Table 6-3). -/
theorem permits_owned {k : Kind} {c : SourceClass} (h : k.permits c = true) : k.owned = true ∧ c ≠ .none := by
  cases k <;> cases c <;> simp_all [Kind.permits, Kind.owned]

/-- A frame that passes every check reaches the owner of its kind, which finds the state as `heard` says (R107 to R113). -/
theorem withFrame_of_dispatched {k : Kind} {f : RxFrame} {s : State} (h : hears s f 0)
    (hperm : k.permits (sourceClass f.src) = true)
    (hdest : (isDirected s f ∧ k.takenDirected = true) ∨ (isToAll f ∧ k.takenBroadcast = true))
    (owner : RxFrame → State → State) : withFrame k f owner s = owner f (heard f s) := by
  obtain ⟨hrun, hlen, hsrc⟩ := h
  obtain ⟨howned, hclass⟩ := permits_owned hperm
  have hcfg : (hearFrame f (endReception s)).cfg = s.cfg := by
    have hcl : (hearFrame f (endReception s)).cl = s.cl := (lower_frame _ _ _).1
    rw [State.cfg, hcl, State.cfg]
  have hheard : heard f s = count .framesRxOk 1 (hearFrame f (endReception s)) := rfl
  have hchecks : receiveFrame k.code f s = checkHeader k.code f (hearFrame f (endReception s)) := by
    rw [receiveFrame, if_neg (by simp [hrun]), if_neg (by omega)]
  generalize hearFrame f (endReception s) = t at hcfg hheard hchecks
  have hown : ¬(t.cfg.ownAddress ≠ 0 ∧ f.src.toNat = t.cfg.ownAddress) := by
    rw [hcfg]
    exact fun he => hsrc he.1 he.2
  have haddress : directed t f = true ∧ k.takenDirected = true ∨ isBroadcast f = true ∧ k.takenBroadcast = true := by
    refine hdest.imp (And.imp_left fun hd => ?_) (And.imp_left fun hb => ?_)
    · simp [directed, hcfg, hd.1, hd.2]
    · exact decide_eq_true hb
  have hfor : (!directed t f && !isBroadcast f && decide (k.code ≠ Kind.beacon.code)) = false := by
    rcases haddress with ⟨hd, -⟩ | ⟨hb, -⟩ <;> simp [*]
  have htaken : addressingTaken k t f = true := by
    rcases haddress with ⟨hd, hk⟩ | ⟨hb, hk⟩ <;> simp [addressingTaken, *]
  have hdispatched : checkHeader k.code f t = .dispatched (heard f s) := by
    rw [checkHeader, if_neg hown, if_neg (by rw [hfor]; decide), kindOf_code]
    simp [hclass, checkSix, howned, hperm, htaken, hheard]
  rw [withFrame, hchecks, hdispatched]

theorem sourceClass_gateway {f : RxFrame} (h : fromGateway f) : sourceClass f.src = .gateway := by
  obtain ⟨hlow, hhigh⟩ := h
  rw [sourceClass, if_neg (by omega), if_neg (by omega), if_pos ⟨hlow, hhigh⟩]

theorem sourceClass_station {f : RxFrame} (h : fromStation f) : sourceClass f.src = .station := if_pos h

theorem advance_hears {s : State} {f : RxFrame} {n : Nat} (h : hears s f n) (d : Nat) : hears (s.advance d) f n := by
  have hcl : (s.advance d).cl = s.cl := (advance_frame s d).1
  simpa [hears, State.inRun, State.cfg, hcl] using h

/-- A frame of a kind that is taken directed and broadcast alike, once time has passed. -/
theorem withFrame_advance {k : Kind} {f : RxFrame} {s : State} (h : hears s f 0) (hdest : isDirected s f ∨ isToAll f)
    (hperm : k.permits (sourceClass f.src) = true) (htaken : k.takenDirected = true ∧ k.takenBroadcast = true) (d : Nat)
    (owner : RxFrame → State → State) : withFrame k f owner (s.advance d) = owner f (heard f (s.advance d)) := by
  refine withFrame_of_dispatched (advance_hears h d) hperm ?_ owner
  refine hdest.imp (fun hd => ⟨?_, htaken.1⟩) fun hb => ⟨hb, htaken.2⟩
  simpa [isDirected, State.cfg] using hd

theorem heard_frame (f : RxFrame) (s : State) :
    (heard f s).cl = s.cl ∧ (heard f s).cd = s.cd ∧ (heard f s).sc = s.sc ∧ (heard f s).ru = s.ru := by
  simp [heard]

/-! ## DIR_PUT and DIR_DROP (R51 to R54): O42 -/

/-- The result of a request as the DIR_RESULT carries it, with the state after it (R51). -/
def answered (r : RequestResult × State) : Byte × State := (r.1.code, r.2)

/-- A DIR_PUT of a present card (R52). -/
theorem putCard_present {e : DirEntry} {s : State} {slot : Nat} {w : DirWay} (found : lookupCard e.card s = some (slot, w)) :
    answered (putCard e s) =
      if e.withStatus w.entry.blocked = w.entry then (0, s)
      else if s.sc.queue.length < 16 then (0, putEntry slot { w with entry := e.withStatus w.entry.blocked } s)
      else (2, s) := by
  simp only [putCard, found, replaceEntry, queueHasRoom_one]
  split_ifs <;> rfl

theorem emptyWay_eq (bucket : Nat) (s : State) :
    emptyWay bucket s = ((List.range 8).find? fun i => (Sparse.get (bucket * 8 + i) s.cd.image).isNone).map (bucket * 8 + ·) :=
  List.find?_map ..

theorem statusAtCreation_eq (card : Word32) (s : State) :
    statusAtCreation card s = ((newestRecord card s.ru).map RevRecord.block).getD false := by
  unfold statusAtCreation
  cases newestRecord card s.ru <;> rfl

/-- A DIR_PUT of an absent card (R53). -/
theorem putCard_absent {e : DirEntry} {s : State} (absent : lookupCard e.card s = none) :
    answered (putCard e s) =
      match (List.range 8).find? fun i => (Sparse.get (bucketOf e.card * 8 + i) s.cd.image).isNone with
      | none => (1, occur .storeFull 0 s)
      | some i =>
        if s.sc.queue.length < 16 then
          (0, putEntry (bucketOf e.card * 8 + i)
            ⟨e.withStatus (((newestRecord e.card s.ru).map RevRecord.block).getD false), 0⟩ s)
        else (2, s) := by
  simp only [putCard, absent, createEntry, queueHasRoom_one, emptyWay_eq, statusAtCreation_eq]
  cases (List.range 8).find? fun i => (Sparse.get (bucketOf e.card * 8 + i) s.cd.image).isNone with
  | none => rfl
  | some i =>
    simp only [Option.map_some]
    split_ifs <;> rfl

/-- A DIR_DROP (R54). -/
theorem dropCard_answered (card : Word32) (s : State) :
    answered (dropCard card s) = match lookupCard card s with
      | none => (3, s)
      | some (slot, _) =>
        if s.sc.queue.length < 16 then
          (0, placeItems [⟨.dir slot, List.replicate 16 0⟩] (s.setCd { s.cd with image := Sparse.del slot s.cd.image }))
        else (2, s) := by
  simp only [dropCard, queueHasRoom_one]
  cases lookupCard card s with
  | none => rfl
  | some p => split_ifs <;> rfl

theorem Sparse.del_eq_filter {α : Type} {l : List (Nat × α)} (h : Sparse.rising l) (k : Nat) :
    Sparse.del k l = l.filter fun p => p.1 ≠ k := by
  induction l with
  | nil => rfl
  | cons p l ih =>
    obtain ⟨hhead, htail⟩ := List.pairwise_cons.1 h
    by_cases hp : p.1 = k
    · have hrest : l.filter (fun p => p.1 ≠ k) = l := List.filter_eq_self.2 fun q hq => by
        have := hhead q hq
        simp only [decide_eq_true_eq]
        omega
      rw [List.filter_cons_of_neg (by simpa using hp), hrest]
      exact if_pos hp
    · rw [List.filter_cons_of_pos (by simpa using hp), ← ih htail]
      exact if_neg hp

/-- The way of a card dropped is the entry of that card (R47, R54). -/
theorem dropped_image {s : State} (h : DirectoryLaw s.cd) {card : Word32} {slot : Nat} {w : DirWay}
    (found : lookupCard card s = some (slot, w)) :
    Sparse.del slot s.cd.image = s.cd.image.filter fun p => p.2.entry.card ≠ card := by
  obtain ⟨hmem, -, hcard⟩ := lookupCard_some found
  rw [Sparse.del_eq_filter (directoryLaw_rising h)]
  refine List.filter_congr fun p hp => decide_eq_decide.2 (not_congr ⟨fun hslot => ?_, fun he => ?_⟩)
  · have hget := (Sparse.get_eq_some_iff (directoryLaw_rising h) p.1 p.2).2 hp
    rw [hslot, (Sparse.get_eq_some_iff (directoryLaw_rising h) slot w).2 hmem, Option.some.injEq] at hget
    rw [← hget]
    exact hcard
  · exact congrArg Prod.fst (directoryLaw_way_unique h hp hmem (he.trans hcard.symm))

theorem dirResult_eq {f : RxFrame} {s : State} {r : RequestResult × State} (h : r.2.cl = s.cl) :
    dirResult f r = if isDirected s f then
      reply .dirResult f (f.payload.take 4 ++ [(answered r).1]) (answered r).2 else (answered r).2 := by
  have hdirected : directed r.2 f = decide (isDirected s f) := by
    simp only [directed, State.cfg, h, Bool.decide_and]
    rfl
  rw [dirResult, hdirected]
  simp only [decide_eq_true_eq]
  rfl

theorem putCard_cl (e : DirEntry) (s : State) : (putCard e s).2.cl = s.cl := by
  unfold putCard replaceEntry createEntry putEntry
  (repeat' split) <;> simp [setWay]

theorem dropCard_cl (card : Word32) (s : State) : (dropCard card s).2.cl = s.cl := by
  unfold dropCard
  (repeat' split) <;> simp

/-- Settles O42: a request that reaches CD is decided by the cases of R52 to R54, and a directed one is answered. -/
theorem directoryRequestsAreAnswered : Obligations.DirectoryRequestsAreAnswered := by
  have hcl (s : State) (f : RxFrame) (d : Nat) : (heard f (s.advance d)).cl = s.cl :=
    (heard_frame f _).1.trans (advance_frame s d).1
  refine ⟨fun s d f hf hg hdest => ?_, fun s d f hf hg hdest hlaw => ?_⟩
  · intro u v
    have hexec : exec (.dirPut d f) s = .next (takeDirPut f v) :=
      congrArg _ (withFrame_advance hf hdest (by rw [sourceClass_gateway hg]; decide) (by decide) d takeDirPut)
    refine ⟨fun hlen => ?_, fun hlen => ?_⟩
    · rw [hexec, takeDirPut, if_neg hlen]
    · intro card entry bucket status put result
      have hresult : answered (putCard (carriedEntry f.payload) v) = result := by
        rcases hfound : lookupCard card v with _ | ⟨slot, w⟩
        · rw [putCard_absent hfound]
          simp only [result, hfound]
          rfl
        · rw [putCard_present hfound]
          simp only [result, hfound]
          rfl
      rw [hexec, takeDirPut, if_pos hlen, dirResult_eq ((putCard_cl _ v).trans (hcl s f d)), hresult]
  · intro u v
    have hexec : exec (.dirDrop d f) s = .next (takeDirDrop f v) :=
      congrArg _ (withFrame_advance hf hdest (by rw [sourceClass_gateway hg]; decide) (by decide) d takeDirDrop)
    refine ⟨fun hlen => ?_, fun hlen => ?_⟩
    · rw [hexec, takeDirDrop, if_neg hlen]
    · intro card result
      have hresult : answered (dropCard card v) = result := by
        have hv : v.cd = s.cd := (heard_frame f u).2.1.trans (advance_frame s d).2.2.1
        rw [dropCard_answered]
        rcases hfound : lookupCard card v with _ | ⟨slot, w⟩
        · simp only [result, hfound]
        · simp only [result, hfound, dropped_image (hv ▸ hlaw) hfound]
          rfl
      rw [hexec, takeDirDrop, if_pos hlen, dirResult_eq ((dropCard_cl _ v).trans (hcl s f d)), hresult]

end Sys2Proof.StoreProofs
end

section
/-! SUPPORT. The proofs of chapters 3, 5 and 9, continued: the records of a REVOKE_PUSH (R92 to R96, R98). -/

namespace Sys2Proof.StoreProofs

open Sys2Proof.Machine Sys2Proof.Safety Sys2Proof.FillProofs

/-! ## The records of a push (R91 to R96): O43 -/

theorem fieldAt_drop_take {l : List Byte} {o m a n : Nat} (h : a + n ≤ m) :
    fieldAt ((l.drop o).take m) a n = fieldAt l (o + a) n := by
  rw [fieldAt, fieldAt, List.drop_take, List.drop_drop, List.take_take, Nat.min_eq_left (by omega)]

theorem byteAt_drop_take {l : List Byte} {o m a : Nat} (h : a < m) : byteAt ((l.drop o).take m) a = byteAt l (o + a) := by
  simp [byteAt, h]

/-- The record at an offset of a payload, none when it is malformed (R92). -/
theorem parsePushed_eq (l : List Byte) (o : Nat) :
    parsePushed ((l.drop o).take 9) =
      if fieldAt l o 4 ≠ 0 ∧ (byteAt l (o + 8) = 1 ∨ byteAt l (o + 8) = 2) then
        some ⟨fieldAt l o 4, BitVec.ofNat 32 (fieldAt l (o + 4) 4), byteAt l (o + 8) = 1⟩
      else none := by
  rw [parsePushed, fieldAt_drop_take (by decide), fieldAt_drop_take (by decide), byteAt_drop_take (by decide), Nat.add_zero]

/-- The record at a place of a payload, with its action byte (Table 12-2). -/
def carriedRecord (l : List Byte) (i : Nat) : RevRecord × Byte :=
  (⟨fieldAt l (2 + 9 * i) 4, BitVec.ofNat 32 (fieldAt l (6 + 9 * i) 4), byteAt l (10 + 9 * i) = 1⟩, byteAt l (10 + 9 * i))

/-- A carried record is not malformed (R92). -/
def wellFormed (p : RevRecord × Byte) : Bool := decide (p.1.seq ≠ 0 ∧ (p.2 = 1 ∨ p.2 = 2))

theorem pushedRecords_eq (f : RxFrame) :
    pushedRecords f = ((List.range (byteAt f.payload 1).toNat).map (carriedRecord f.payload)).map fun p =>
      if wellFormed p then some p.1 else none := by
  simp only [pushedRecords, parsePushed_eq, List.map_map]
  refine List.map_congr_left fun i _ => ?_
  rw [show 2 + 9 * i + 8 = 10 + 9 * i by omega, show 2 + 9 * i + 4 = 6 + 9 * i by omega]
  simp only [Function.comp_apply, wellFormed, decide_eq_true_eq]
  rfl

/-- The records are taken in their order up to the first that is malformed; only the one numbered 0 may be a jump (R92). -/
theorem takeRecords_eq {α : Type} (f : RxFrame) (jump : Bool) (good : α → Bool) (record : α → RevRecord) (l : List α)
    (n : Nat) (s : State) :
    takeRecords f (decide (n = 0) && jump) (l.map fun x => if good x then some (record x) else none) s =
      ((List.range' n (l.takeWhile good).length).zip ((l.takeWhile good).map record)).foldl
        (fun w p => takeRecord f (decide (p.1 = 0) && jump) p.2 w) s := by
  induction l generalizing n s with
  | nil => rfl
  | cons x l ih =>
    cases hgood : good x with
    | false => simp [takeRecords, hgood]
    | true =>
      have hrest := ih (n + 1) (takeRecord f (decide (n = 0) && jump) (record x) s)
      simpa [takeRecords, hgood, List.range'_succ] using hrest

/-! ## The application of a record (R93, R95) -/

theorem clearReachedGap_eq (s : State) :
    clearReachedGap s = if s.ru.gapMark.any fun g => decide (g ≤ s.ru.mark) then clearGap s else s := by
  unfold clearReachedGap
  cases s.ru.gapMark <;> simp

theorem endReachedWant_eq (s : State) :
    endReachedWant s = if s.ru.wanted.any fun p => decide (p.2 ≤ s.ru.mark) then s.setRu { s.ru with wanted := none } else s := by
  unfold endReachedWant
  cases s.ru.wanted <;> simp

theorem clearReachedGap_mark (s : State) : (clearReachedGap s).ru.mark = s.ru.mark := by
  rw [clearReachedGap_eq]
  split <;> simp [clearGap]

/-- What the append of a record ends (R93, R96), the mark being that record's sequence. -/
theorem reached_eq {s : State} {n : Nat} (h : s.ru.mark = n) :
    endReachedWant (clearReachedGap s) =
      let z := if s.ru.gapMark.any fun g => decide (g ≤ n) then clearGap s else s
      if z.ru.wanted.any fun p => decide (p.2 ≤ n) then z.setRu { z.ru with wanted := none } else z := by
  subst h
  rw [endReachedWant_eq, clearReachedGap_mark, clearReachedGap_eq]

theorem append_eq (r : RevRecord) (x : Ru) :
    x.append r = { x with list := (if 64 ≤ x.list.length then x.list.tail else x.list) ++ [r], mark := r.seq } := by
  rw [Ru.append, List.drop_one, listPlaces]

/-- A record that goes on from the mark (R93). -/
theorem applyNext_eq (f : RxFrame) (r : RevRecord) (s : State) :
    applyNext f r s =
      if s.sc.queue.length + (recordItem r :: entryItems r s).length ≤ 16 then
        let t := applyStatus r (placeItems (recordItem r :: entryItems r s) s)
        endReachedWant (clearReachedGap (announceRecord r (t.setRu { t.ru with
          list := (if 64 ≤ t.ru.list.length then t.ru.list.tail else t.ru.list) ++ [r], mark := r.seq })))
      else wantPull (pullTargetOf f) r.seq s := by
  simp only [applyNext, queueHasRoom_iff, append_eq]

/-- A jump (R95). -/
theorem applyJump_eq (f : RxFrame) (r : RevRecord) (s : State) :
    applyJump f r s =
      if s.sc.queue.length + (recordItem r :: entryItems r s).length + 1 ≤ 16 then
        let t := applyStatus r (placeItems (⟨.rev 64, baseImage (r.seq - 1)⟩ :: recordItem r :: entryItems r s) s)
        let v := clearGap (announceRecord r (t.setRu { t.ru with list := [r], base := r.seq - 1, mark := r.seq }))
        v.setRu { v.ru with wanted := none }
      else wantPull (pullTargetOf f) r.seq s := by
  simp only [applyJump, queueHasRoom_iff, List.length_cons, Nat.add_assoc]

theorem pullTargetOf_eq (f : RxFrame) (h : fromStation f ∨ fromGateway f) :
    pullTargetOf f = if fromGateway f then .best else .station f.src.toNat := by
  rcases h with h | h
  · have hnot : ¬fromGateway f := by omega
    rw [pullTargetOf, sourceClass_station h, if_neg (by decide), if_neg hnot]
  · rw [pullTargetOf, sourceClass_gateway h, if_pos rfl, if_pos h]

theorem pushJumps_eq (f : RxFrame) (h : fromStation f ∨ fromGateway f) :
    pushJumps f = decide ((byteAt f.payload 0).getLsbD 0 = true ∧ fromGateway f) := by
  rcases h with h | h
  · have hnot : ¬fromGateway f := by omega
    simp [pushJumps, sourceClass_station h, hnot]
  · simp [pushJumps, sourceClass_gateway h, h]

theorem pushFits_iff (f : RxFrame) : pushFits f = true ↔
    2 ≤ f.payload.length ∧ (byteAt f.payload 1).toNat ≤ 8 ∧ f.payload.length = 2 + 9 * (byteAt f.payload 1).toNat := by
  simp [pushFits, and_assoc]

/-- Settles O43: the records of a push are taken one by one, each as the sequence test says. -/
theorem pushesApplyRecordsInOrder : Obligations.PushesApplyRecordsInOrder := by
  intro s d f hf hsource hdest u v n fits wanted items statusSet applied next jumped take carried good done
  have hperm : Kind.revokePush.permits (sourceClass f.src) = true := by
    rcases hsource with h | h
    · rw [sourceClass_station h]; decide
    · rw [sourceClass_gateway h]; decide
  have hexec : exec (.revokePush d f) s = .next (takePush f v) :=
    congrArg _ (withFrame_advance hf hdest hperm (by decide) d takePush)
  have happlied {r : RevRecord} {w : State} (h : w.ru.mark = r.seq) :
      endReachedWant (clearReachedGap (announceRecord r w)) = applied r w :=
    reached_eq (by rw [(announceRecord_frame r w).2.2.2.2.1, h])
  have hwanted : pullTargetOf f = wanted := pullTargetOf_eq f hsource
  have hnext (r : RevRecord) (w : State) :
      applyNext f r w = if w.sc.queue.length + (items r w).length ≤ 16 then next r w else wantPull wanted r.seq w := by
    rw [applyNext_eq, hwanted]
    exact if_congr Iff.rfl (happlied rfl) rfl
  have hjumped (r : RevRecord) (w : State) :
      applyJump f r w = if w.sc.queue.length + (items r w).length + 1 ≤ 16 then jumped r w else wantPull wanted r.seq w := by
    rw [applyJump_eq, hwanted]
    rfl
  have htake (w : State) (p : Nat × RevRecord) :
      takeRecord f (decide (p.1 = 0) && pushJumps f) p.2 w = take w p := by
    simp only [takeRecord, hnext, hjumped, hwanted, pushJumps_eq f hsource, take, Bool.and_eq_true, decide_eq_true_eq]
    by_cases hfollows : p.2.seq = w.ru.mark + 1
    · simp only [hfollows, if_true, true_and]
    · simp only [hfollows, if_false, false_and]
  have hdone : takeRecords f (pushJumps f) (pushedRecords f) v = done := by
    have h := takeRecords_eq f (pushJumps f) wellFormed Prod.fst ((List.range n).map (carriedRecord f.payload)) 0 v
    simp only [htake, ← List.range_eq_range'] at h
    rw [pushedRecords_eq]
    exact h
  refine ⟨fun h => ?_, fun h => ?_⟩
  · rw [hexec, takePush, if_neg (h ∘ (pushFits_iff f).1)]
  · rw [hexec, takePush, if_pos ((pushFits_iff f).2 h), hdone]
    rfl

end Sys2Proof.StoreProofs
end

section
/-! SUPPORT. The proofs of chapter 4: the redirect target in the order of its keys (R84 to R86). -/

namespace Sys2Proof.CardProofs

open Sys2Proof.Machine Sys2Proof.Safety

/-! ## The order of the keys (R86) -/

theorem keysBefore_irrefl (l : List Nat) : keysBefore l l = false := by
  induction l with
  | nil => rfl
  | cons a l ih => simp [keysBefore, ih]

theorem keysBefore_cons (a b : Nat) (l m : List Nat) :
    keysBefore (a :: l) (b :: m) = true ↔ a < b ∨ a = b ∧ keysBefore l m = true := by simp [keysBefore]

theorem keysBefore_trans {k l m : List Nat} (hkl : keysBefore k l = true) (hlm : keysBefore l m = true) :
    keysBefore k m = true := by
  induction k generalizing l m with
  | nil => simp [keysBefore] at hkl
  | cons a k ih =>
    cases l with
    | nil => simp [keysBefore] at hkl
    | cons b l =>
      cases m with
      | nil => simp [keysBefore] at hlm
      | cons c m =>
        rw [keysBefore_cons] at *
        rcases hkl with hab | ⟨rfl, hkl⟩
        · exact .inl (hlm.elim hab.trans fun h => h.1 ▸ hab)
        · exact hlm.imp_right fun h => ⟨h.1, ih hkl h.2⟩

/-- One candidate comes before another in the order of R86. -/
abbrev Precedes (x y : Candidate) : Prop := keysBefore x.keys y.keys = true

/-- The fold that chooses the target is Mathlib's search for a least element. -/
theorem foldl_firstCandidate (l : List Candidate) :
    l.foldl firstCandidate none = l.foldl (List.argAux Precedes) none := by
  congr 1
  funext o y
  cases o <;> rfl

theorem firstCandidate_mem {l : List Candidate} {x : Candidate} (h : l.foldl firstCandidate none = some x) : x ∈ l := by
  induction l using List.reverseRecOn generalizing x with
  | nil => cases h
  | append_singleton l y ih =>
    rw [List.foldl_append, List.foldl_cons, List.foldl_nil] at h
    cases hbest : l.foldl firstCandidate none with
    | none =>
      rw [hbest, firstCandidate, Option.some.injEq] at h
      simp [h]
    | some z =>
      rw [hbest, firstCandidate] at h
      split at h <;> cases h
      · simp
      · exact List.mem_append_left _ (ih hbest)

theorem not_precedes_firstCandidate {l : List Candidate} {x y : Candidate} (hx : l.foldl firstCandidate none = some x)
    (hy : y ∈ l) : keysBefore y.keys x.keys = false := by
  rw [foldl_firstCandidate] at hx
  have hnot := List.not_of_mem_foldl_argAux Precedes ⟨fun z => by simp [keysBefore_irrefl]⟩
    ⟨fun _ _ _ => keysBefore_trans⟩ hy hx
  exact Bool.eq_false_of_not_eq_true hnot

theorem redirectTarget_none {s : State} {c : Col} (h : candidates s c = []) : redirectTarget s c = none := by
  rw [redirectTarget, h]
  rfl

/-- A target is named whenever there is a candidate, and no candidate precedes it. -/
theorem redirectTarget_some {s : State} {c : Col} (h : candidates s c ≠ []) :
    ∃ x ∈ candidates s c, redirectTarget s c = some ⟨x.address, x.cont⟩ ∧
      ∀ y ∈ candidates s c, keysBefore y.keys x.keys = false := by
  cases hbest : (candidates s c).foldl firstCandidate none with
  | none =>
    rw [foldl_firstCandidate, List.foldl_argAux_eq_none] at hbest
    exact absurd hbest.1 h
  | some x =>
    exact ⟨x, firstCandidate_mem hbest, by rw [redirectTarget, hbest, Option.map_some],
      fun y hy => not_precedes_firstCandidate hbest hy⟩

/-! ## The keys of the candidates (R84, R85) -/

/-- A list walked with its indices, or by its indices: the elements that a test lets through. -/
theorem map_filter_zipIdx {α β : Type} (p : α → Bool) (f : Nat → α → β) (l : List α) :
    (l.zipIdx.filter fun q => p q.1).map (fun q => f q.2 q.1) =
      (List.range l.length).flatMap fun i => (l[i]?.toList.filter p).map (f i) := by
  induction l generalizing f with
  | nil => rfl
  | cons a l ih =>
    have hrest := ih fun i => f (i + 1)
    rw [List.length_cons, List.range_succ_eq_map, List.flatMap_cons, List.flatMap_map, List.zipIdx_cons, List.zipIdx_succ,
      List.filter_cons, List.filter_map]
    cases hp : p a <;> simpa [hp, Function.comp_def] using hrest

theorem flatMap_ite {α β : Type} (p : α → Bool) (f : α → List β) (l : List α) :
    (l.flatMap fun a => if p a then f a else []) = (l.filter p).flatMap f := by
  induction l with
  | nil => rfl
  | cons a l ih => cases hp : p a <;> simp [hp, ih]

theorem ownCandidates_keys (s : State) (c : Col) :
    (ownCandidates s c).map Candidate.keys =
      (cols.filter fun e => decide (e.val < s.cl.image.count ∧ e ≠ c ∧ (s.ccfg e).fraction = (s.ccfg c).fraction ∧
        (s.cc.get e).state = .idle ∧ (s.fe.get e).unknown = false)).map fun e =>
          [(s.fe.get e).cls.code, 0, 0, (s.fe.get e).e / 10, s.cfg.ownAddress, e.val] := by
  rw [ownCandidates, List.map_map, State.usedCols, List.filter_filter]
  congr 2
  funext e
  rw [Bool.eq_iff_iff]
  simp [ownCandidate, State.inUse]
  tauto

theorem entryCandidates_keys (s : State) (c : Col) (n : Neighbour) :
    (entryCandidates s c n).map Candidate.keys =
      if mayName s n then
        (List.range n.summaries.length).flatMap fun i => (n.summaries[i]?.toList.filter (summaryCandidate s c)).map fun x =>
          [x.cls.toNat, 1, n.rank.getD 8, x.fillPercent.toNat, n.address, i]
      else [] := by
  rw [entryCandidates]
  split
  · rw [List.map_map, ← map_filter_zipIdx]
    rfl
  · rfl

theorem candidates_keys (s : State) (c : Col) :
    (candidates s c).map Candidate.keys =
      (ownCandidates s c).map Candidate.keys ++ (s.nu.table.filter (mayName s)).flatMap fun n =>
        (List.range n.summaries.length).flatMap fun i => (n.summaries[i]?.toList.filter (summaryCandidate s c)).map fun x =>
          [x.cls.toNat, 1, n.rank.getD 8, x.fillPercent.toNat, n.address, i] := by
  rw [candidates, List.map_append, List.map_flatMap, ← flatMap_ite]
  simp only [entryCandidates_keys]

theorem mayName_eq (s : State) (n : Neighbour) :
    mayName s n = decide (n.age ≤ 3 * s.cfg.beaconInterval ∧ n.marginal = false ∧
      (n.rank.isSome = true ∨ s.cfg.openRedirect = true)) := by
  simp [mayName, isFresh, Bool.and_assoc]

theorem summaryCandidate_eq (s : State) (c : Col) (x : Summary) :
    summaryCandidate s c x =
      decide (x.fraction.toNat = (s.ccfg c).fraction ∧ x.group.toNat = 0 ∧ x.unknown = false) := by
  rw [Bool.eq_iff_iff]
  simp only [summaryCandidate, Bool.and_eq_true, decide_eq_true_eq, Bool.not_eq_true', and_assoc]
  rfl

/-- Settles O33: the keys of the statement are those of the candidates, and the target is a candidate that none precedes. -/
theorem redirectNamesTheFirstCandidate : Obligations.RedirectNamesTheFirstCandidate := by
  intro s c own named accepts keys
  have hkeys : (candidates s c).map Candidate.keys = keys := by
    rw [candidates_keys, ownCandidates_keys, funext (mayName_eq s), funext (summaryCandidate_eq s c)]
  rw [← hkeys]
  refine ⟨fun h => redirectTarget_none (List.map_eq_nil_iff.1 h), fun h => ?_⟩
  obtain ⟨x, hx, htarget, hfirst⟩ := redirectTarget_some (mt List.map_eq_nil_iff.2 h)
  exact ⟨x.keys, List.mem_map_of_mem hx, htarget, List.forall_mem_map.2 hfirst⟩

end Sys2Proof.CardProofs
end

section
/-! SUPPORT. The proofs of chapter 4, continued: what a reader channel sends (R67, R68). -/

namespace Sys2Proof.CardProofs

open Sys2Proof.Machine Sys2Proof.Safety

/-! ## Indications (R68) -/

theorem indicate_eq (c : Col) (i : Indication) (s : State) :
    indicate c i s = { s with au := s.au.set c (withIndication i (s.au.get c)) } := rfl

theorem repeatLast_eq (c : Col) (s : State) :
    repeatLast c s = { s with au := s.au.set c (withIndication (s.au.get c).last (s.au.get c)) } := rfl

/-! ## Reader messages (R67) -/

theorem takesMessages_advance (s : State) (d : Nat) (c : Col) : takesMessages (s.advance d) c = takesMessages s c := by
  simp [takesMessages]

theorem takesMessages_iff (s : State) (c : Col) : takesMessages s c = true ↔
    s.cl.powered = true ∧ s.cl.resetLow = false ∧ (s.cl.phase ≠ .run ∨ s.inUse c = true) := by
  simp [takesMessages, and_assoc]

theorem takesMessages_off {s : State} (h : s.cl.powered = false ∨ s.cl.resetLow = true) (c : Col) :
    takesMessages s c = false := by
  rcases h with h | h <;> simp [takesMessages, h]

theorem exec_repeatIndication (s : State) (d : Nat) (c : Col) :
    exec (.repeatIndication d c) s =
      .next (if takesMessages s c then repeatLast c (s.advance d) else s.advance d) := by
  rw [← takesMessages_advance s d]
  rfl

/-- Bytes that fail the check byte, the type, or the length or read status of their type spell no message. -/
theorem parseReaderMessage_none {b : List Byte}
    (h : b.getLast? ≠ some (crc8 0 b.dropLast) ∨ (byteAt b 0 ≠ 0xC1 ∧ byteAt b 0 ≠ 0xC2) ∨
      (byteAt b 0 = 0xC1 ∧ (b.length ≠ 8 ∨ (byteAt b 6 ≠ 0 ∧ byteAt b 6 ≠ 1))) ∨ (byteAt b 0 = 0xC2 ∧ b.length ≠ 2)) :
    parseReaderMessage b = none := by
  have htype : (0xC1 : Byte) ≠ 0xC2 := by decide
  unfold parseReaderMessage
  rcases h with hcheck | ⟨hread, hrepeat⟩ | ⟨hread, hbad⟩ | ⟨hrepeat, hlength⟩
  · simp only [hcheck, if_false]
  · simp only [hread, hrepeat, false_and, if_false, ite_self]
  · have hnot : ¬(b.length = 8 ∧ (byteAt b 6 = 0 ∨ byteAt b 6 = 1)) := by tauto
    simp only [hread, hnot, htype, false_and, and_false, if_false, ite_self]
  · simp only [hrepeat, hlength, htype.symm, false_and, and_false, if_false, ite_self]

theorem parseReaderMessage_repeat : parseReaderMessage [0xC2, crc8 0 [0xC2]] = some .repeatIndication := by
  simp [parseReaderMessage, byteAt]

theorem exec_readerMessageDiscarded_none {b : List Byte} (h : parseReaderMessage b = none) (s : State) (d : Nat) (c : Col) :
    exec (.readerMessageDiscarded d c b) s = .next (s.advance d) := by
  simp only [exec, execReaderMessageDiscarded, h]

theorem exec_readerMessageDiscarded_repeat {b : List Byte} (h : parseReaderMessage b = some .repeatIndication) (s : State)
    (d : Nat) (c : Col) : exec (.readerMessageDiscarded d c b) s = exec (.repeatIndication d c) s := by
  simp only [exec, execReaderMessageDiscarded, h, execRepeat]

theorem exec_indicationSendComplete (s : State) (d : Nat) (c : Col) :
    exec (.indicationSendComplete d c) s = .next (if ((s.advance d).au.get c).sending.isSome then
        (s.advance d).setAu c { (s.advance d).au.get c with sending := ((s.advance d).au.get c).waiting, waiting := none }
      else s.advance d) := rfl

/-- Settles O34: each message and the end of a send, by the test that the channel makes of it. -/
theorem readerChannelsSendTheNewest : Obligations.ReaderChannelsSendTheNewest := by
  intro s d c u a
  refine ⟨fun hpower hreset hchannel => ?_, fun hoff => ?_, fun hsending => ?_, fun hidle => ?_,
    fun b hb => exec_readerMessageDiscarded_none (parseReaderMessage_none hb) s d c,
    fun b hb => exec_readerMessageDiscarded_repeat (hb ▸ parseReaderMessage_repeat) s d c⟩
  · rw [exec_repeatIndication, if_pos ((takesMessages_iff s c).2 ⟨hpower, hreset, hchannel⟩), repeatLast_eq]
  · rw [exec_repeatIndication, takesMessages_off hoff, if_neg Bool.false_ne_true]
  · rw [exec_indicationSendComplete, if_pos hsending, State.setAu]
  · have hnone : ¬a.sending.isSome = true := by simp [hidle]
    rw [exec_indicationSendComplete, if_neg hnone]

end Sys2Proof.CardProofs
end

section
/-! SUPPORT. The proofs of chapter 4, continued: card reads and the checks of Table 4-2 (R69 to R76, R79, R83). -/

namespace Sys2Proof.CardProofs

open Sys2Proof.Machine Sys2Proof.Safety Sys2Proof.FillProofs Sys2Proof.StoreProofs

/-! ## Card reads outside the checks (R67, R69, R79) -/

theorem exec_cardRead (s : State) (d : Nat) (c : Col) (card : Word32) (issue : Byte) (fault : Bool) :
    exec (.cardRead d c card issue fault) s = .next (if takesMessages s c then
      if s.inRun then present c card issue fault (s.advance d) else indicate c (.plain .outOfService) (s.advance d)
      else s.advance d) := by
  rw [← takesMessages_advance s d, ← (advance_phase s d).1]
  rfl

/-- In RUN the reader of a container of the station has each read taken as a presentation. -/
theorem exec_cardRead_serves {s : State} {c : Col} (hs : s.serves c = true) (hreset : s.cl.resetLow = false) (d : Nat)
    (card : Word32) (issue : Byte) (fault : Bool) :
    exec (.cardRead d c card issue fault) s = .next (present c card issue fault (s.advance d)) := by
  obtain ⟨hrun, huse⟩ : s.inRun = true ∧ s.inUse c = true := by simpa [State.serves] using hs
  have hpower : s.cl.powered = true := by
    simp only [State.inRun, Bool.and_eq_true] at hrun
    exact hrun.1
  rw [exec_cardRead, if_pos ((takesMessages_iff s c).2 ⟨hpower, hreset, .inr huse⟩), if_pos hrun]

theorem count_au (k : Counter) (n : Nat) (s : State) : (count k n s).au = s.au := by
  rw [(count_report k n s).blocks]

theorem present_holder {s : State} {c : Col} {card : Word32} {g : Grant} (hg : (s.au.get c).grant = some g)
    (hcard : g.card = card) (issue : Byte) :
    present c card issue false s =
      if g.active then holderPresents c g (count .cardsPresented 1 s) else count .cardsPresented 1 s := by
  have hmatch : matchingGrant (count .cardsPresented 1 s) c card false = some g := by
    simp [matchingGrant, hg, Option.filter, hcard]
  simp only [present, hmatch]

theorem holderPresents_eq {s : State} {c : Col} {g : Grant} (hg : (s.au.get c).grant = some g) :
    holderPresents c g s = { s with
      au := s.au.set c (withIndication ⟨.grant, g.allowed - g.done, g.windowLength, none, none⟩ { s.au.get c with
        grant := some { g with window := ⟨0, decide ((s.cc.get c).state = .granted)⟩ } }) } := by
  simp [holderPresents, setWindow, indicate_eq, hg, State.setAu]

/-- Settles O31: a read that no check judges, by the phase and by the grant record that it meets. -/
theorem cardReadsOutsideTheChecks : Obligations.CardReadsOutsideTheChecks := by
  intro s d c card issue fault u v
  refine ⟨fun hpower hreset hphase => ?_, fun hoff => ?_, fun hs hreset hfault g hg hcard => ?_⟩
  · have hrun : ¬s.inRun = true := by simp [State.inRun, hphase]
    rw [exec_cardRead, if_pos ((takesMessages_iff s c).2 ⟨hpower, hreset, .inl hphase⟩), if_neg hrun, indicate_eq]
  · rw [exec_cardRead, takesMessages_off hoff, if_neg Bool.false_ne_true]
  · have hv : v = { u with lc := v.lc, acu := v.acu } := (count_report .cardsPresented 1 u).blocks
    rw [exec_cardRead_serves hs hreset, hfault, present_holder hg hcard]
    refine ⟨fun hactive => ?_, fun hrequested => by rw [hrequested, if_neg Bool.false_ne_true]⟩
    have hgrant : (v.au.get c).grant = some g := by rw [hv]; exact hg
    rw [if_pos hactive, holderPresents_eq hgrant, hv]

/-! ## The checks (Table 4-2) -/

/-- The checks read neither the counters nor the line. -/
theorem judge_count (k : Counter) (n : Nat) (s : State) (c : Col) (card : Word32) (issue : Byte) (fault : Bool) :
    judge (count k n s) c card issue fault = judge s c card issue fault := by
  rw [(count_report k n s).blocks]
  rfl

theorem redirectTarget_count (k : Counter) (n : Nat) (s : State) (c : Col) :
    redirectTarget (count k n s) c = redirectTarget s c := by
  rw [(count_report k n s).blocks]
  rfl

theorem limited_iff (s : State) (c : Col) (e : DirEntry) : limited s c e = true ↔
    s.cfg.metered.getLsbD (s.ccfg c).fraction = true ∧ 0 < s.cfg.caps.get e.capClass := by
  rw [limited, Bool.and_eq_true, decide_eq_true_eq]
  rfl

theorem capReached_iff (s : State) (c : Col) (w : DirWay) : capReached s c w = true ↔
    (s.cfg.metered.getLsbD (s.ccfg c).fraction = true ∧ 0 < s.cfg.caps.get w.entry.capClass) ∧
      s.cfg.caps.get w.entry.capClass ≤ w.usage := by
  rw [capReached, Bool.and_eq_true, limited_iff, decide_eq_true_eq]
  rfl

theorem holdsElsewhere_iff (s : State) (c : Col) (card : Word32) : holdsElsewhere s c card = true ↔
    ∃ e : Col, e ≠ c ∧ ∃ g ∈ (s.au.get e).grant, g.card = card := by
  simp [holdsElsewhere, mem_cols, Option.any_eq_true]

/-- Check 8 where no grant of the container is the card's own. -/
theorem heldByAnother_iff {s : State} {c : Col} {card : Word32} (h : ∀ g ∈ (s.au.get c).grant, g.card ≠ card) :
    heldByAnother s c card = true ↔ ∃ g ∈ (s.au.get c).grant, ¬(g.active = true ∧
      ((s.cc.get c).waitingRound.isSome = true ∨ (s.cc.get c).pendingEnd.isSome = true)) := by
  cases hg : (s.au.get c).grant with
  | none => simp [heldByAnother, hg]
  | some g => cases hactive : g.active <;> simp [heldByAnother, closing, hg, h g hg, hactive]

/-- A read of status FAULT, or of a card that is not the record's own, meets no grant record. -/
theorem matchingGrant_none {s : State} {c : Col} {card : Word32} {fault : Bool}
    (h : fault = true ∨ ∀ g ∈ (s.au.get c).grant, g.card ≠ card) : matchingGrant s c card fault = none := by
  rcases h with h | h
  · simp [matchingGrant, h]
  · cases fault
    · simpa [matchingGrant] using h
    · rfl

theorem present_refused {s : State} {c : Col} {card : Word32} {issue : Byte} {fault : Bool} {cause : IndCode}
    (h : fault = true ∨ ∀ g ∈ (s.au.get c).grant, g.card ≠ card) (hjudge : judge s c card issue fault = some cause) :
    present c card issue fault s = refuseFor c cause card (count .cardsPresented 1 s) := by
  have hnone := matchingGrant_none (s := count .cardsPresented 1 s) ((count_au .cardsPresented 1 s).symm ▸ h)
  simp only [present, hnone, judge_count, hjudge]

theorem present_passed {s : State} {c : Col} {card : Word32} {issue : Byte} {fault : Bool}
    (h : fault = true ∨ ∀ g ∈ (s.au.get c).grant, g.card ≠ card) (hjudge : judge s c card issue fault = none) :
    present c card issue fault s = requestGrant c card (count .cardsPresented 1 s) := by
  have hnone := matchingGrant_none (s := count .cardsPresented 1 s) ((count_au .cardsPresented 1 s).symm ▸ h)
  simp only [present, hnone, judge_count, hjudge]

theorem refuse_eq (c : Col) (cause : IndCode) (card : Option Word32) (target : Option Target) (s : State) :
    refuse c cause card target (count .cardsPresented 1 s) =
      offerRecord c (s.fe.get c).e (.refusal cause card target)
        { (if cause = .redirect then count .redirects 1 (count .refusals 1 (count .cardsPresented 1 s))
            else count .refusals 1 (count .cardsPresented 1 s)) with
          au := s.au.set c (withIndication ⟨cause, 0, 0, target, none⟩ (s.au.get c)) } := by
  have hau : (if cause = .redirect then count .redirects 1 (count .refusals 1 (count .cardsPresented 1 s))
      else count .refusals 1 (count .cardsPresented 1 s)).au = s.au := by
    split <;> simp only [count_au]
  rw [refuse, (count_report .cardsPresented 1 s).fe, indicate_eq, hau]

theorem refuseClosed_redirect {s : State} {c : Col} {target : Target} (h : redirectTarget s c = some target)
    (card : Word32) : refuseClosed c card s = refuse c .redirect (some card) (some target) s := by
  simp only [refuseClosed, h]

theorem refuseClosed_closed {s : State} {c : Col} (h : redirectTarget s c = none) (card : Word32) :
    refuseClosed c card s = refuse c .closed (some card) none s := by
  simp only [refuseClosed, h]

/-! ## The grant that is requested (R74 to R77) -/

/-- A card that passes the checks has its entry in the directory (check 3). -/
theorem lookupCard_of_judge_none {s : State} {c : Col} {card : Word32} {issue : Byte} {fault : Bool}
    (h : judge s c card issue fault = none) : ∃ found, lookupCard card s = some found := by
  cases hfound : lookupCard card s with
  | some found => exact ⟨found, rfl⟩
  | none =>
    unfold judge at h
    rw [hfound] at h
    split_ifs at h

theorem limited_eq_decide (s : State) (c : Col) (e : DirEntry) : limited s c e =
    decide (s.cfg.metered.getLsbD (s.ccfg c).fraction = true ∧ 0 < s.cfg.caps.get e.capClass) := by
  rw [Bool.eq_iff_iff, limited_iff, decide_eq_true_eq]

/-- The cycles of a limited card are bounded by what its cap leaves (R76). -/
theorem newGrant_eq (s : State) (c : Col) (card : Word32) (w : DirWay) :
    newGrant s c card w =
      { active := false
        card := card
        metered := decide (s.cfg.metered.getLsbD (s.ccfg c).fraction = true ∧ 0 < s.cfg.caps.get w.entry.capClass)
        allowed :=
          if s.cfg.metered.getLsbD (s.ccfg c).fraction = true ∧ 0 < s.cfg.caps.get w.entry.capClass then
            min (s.ccfg c).cycles (s.cfg.caps.get w.entry.capClass - w.usage)
          else (s.ccfg c).cycles
        done := 0
        windowLength := if w.entry.assist then 2 * s.cfg.grantWindow else s.cfg.grantWindow
        window := ⟨0, false⟩
        revoked := false } := by
  have hallowed := if_congr (limited_iff s c w.entry)
    (rfl : min (s.ccfg c).cycles (capOf s w.entry - w.usage) = _) (rfl : (s.ccfg c).cycles = _)
  rw [newGrant, limited_eq_decide, cyclesAllowed, hallowed]
  rfl

theorem requestGrant_eq {s : State} {c : Col} {card : Word32} {slot : Nat} {w : DirWay}
    (h : lookupCard card s = some (slot, w)) :
    requestGrant c card (count .cardsPresented 1 s) = { count .cardsPresented 1 s with
      au := s.au.set c { s.au.get c with grant := some (newGrant s c card w) } } := by
  rw [(count_report .cardsPresented 1 s).blocks]
  have hcount (x : Lc) (y : Acu) : lookupCard card { s with lc := x, acu := y } = some (slot, w) := h
  simp only [requestGrant, hcount]
  rfl

/-- Settles O32: the model's checks are those of the statement in the same order, and each result has its own answer. -/
theorem cardsAreJudgedInOrder : Obligations.CardsAreJudgedInOrder := by
  intro s d c card issue fault hs hreset u hother fraction capOf isLimited closing failing refused
  have hjudge : judge u c card issue fault = failing := by
    cases fault with
    | true => rfl
    | false =>
      have hfree := hother.resolve_left Bool.false_ne_true
      refine if_congr Iff.rfl rfl (if_congr Iff.rfl rfl ?_)
      cases lookupCard card u with
      | none => rfl
      | some found =>
        exact if_congr Iff.rfl rfl (if_congr Iff.rfl rfl (if_congr (Iff.of_eq (Bool.not_eq_true' _)) rfl
          (if_congr (holdsElsewhere_iff u c card) rfl (if_congr (heldByAnother_iff hfree) rfl
            (if_congr (capReached_iff u c found.2) rfl rfl)))))
  rw [exec_cardRead_serves hs hreset]
  have hrefused (cause : IndCode) (number : Option Word32) (target : Option Target) :
      refuse c cause number target (count .cardsPresented 1 u) = refused cause number target :=
    refuse_eq c cause number target u
  cases hfailing : failing with
  | none =>
    have hpassed := hjudge.trans hfailing
    obtain ⟨⟨slot, w⟩, hfound⟩ := lookupCard_of_judge_none hpassed
    rw [present_passed hother hpassed, requestGrant_eq hfound, newGrant_eq, hfound]
  | some cause =>
    rw [present_refused hother (hjudge.trans hfailing)]
    cases cause
    case closed =>
      have htarget := redirectTarget_count .cardsPresented 1 u c
      cases hnamed : redirectTarget u c with
      | none => rw [refuseFor, refuseClosed_closed (htarget.trans hnamed), hrefused]
      | some target => rw [refuseFor, refuseClosed_redirect (htarget.trans hnamed), hrefused]
    all_goals exact congrArg _ (hrefused _ _ _)

end Sys2Proof.CardProofs
end

section
/-! SUPPORT. The proofs of chapter 5, continued: the serving of pulls (R99), and the send test with what makes it (R97, R98,
R100). -/

namespace Sys2Proof.PullProofs

open Sys2Proof.Machine Sys2Proof.Safety Sys2Proof.FillProofs Sys2Proof.StoreProofs

/-! ## Lists of consecutive records (R90) -/

/-- The records from one sequence to below another stand together. -/
theorem filter_between {l : List RevRecord} {a b c : Nat} (h : l.map RevRecord.seq = List.range' a l.length) :
    l.filter (fun r => decide (b ≤ r.seq ∧ r.seq < c)) = (l.take (c - a)).drop (b - a) := by
  induction l generalizing a with
  | nil => simp
  | cons r l ih =>
    obtain ⟨hr, hl⟩ : r.seq = a ∧ l.map RevRecord.seq = List.range' (a + 1) l.length := by
      simpa [List.range'_succ] using h
    have hrest := ih hl
    rcases Nat.lt_or_ge a c with hbelow | habove
    · rw [show c - a = c - (a + 1) + 1 by omega, List.take_succ_cons]
      rcases Nat.lt_or_ge a b with hbefore | hfrom
      · rw [List.filter_cons_of_neg (by simp [hr, hbefore]), hrest, show b - a = b - (a + 1) + 1 by omega, List.drop_succ_cons]
      · rw [List.filter_cons_of_pos (by simp [hr, hfrom, hbelow]), hrest, Nat.sub_eq_zero_of_le hfrom,
          Nat.sub_eq_zero_of_le (by omega), List.drop_zero, List.drop_zero]
    · rw [List.filter_cons_of_neg (by simp [hr, habove]), hrest, Nat.sub_eq_zero_of_le habove,
        Nat.sub_eq_zero_of_le (Nat.le_succ_of_le habove)]
      simp

/-- The records of eight consecutive sequences, from one that is not below the oldest. -/
theorem drop_take_eq_filter {l : List RevRecord} {a b : Nat} (h : l.map RevRecord.seq = List.range' a l.length) (hb : a ≤ b) :
    (l.drop (b - a)).take 8 = l.filter fun r => decide (b ≤ r.seq ∧ r.seq ≤ b + 7) := by
  have hbetween := filter_between (b := b) (c := b + 8) h
  rw [List.drop_take, show b + 8 - a - (b - a) = 8 by omega] at hbetween
  rw [← hbetween]
  exact List.filter_congr fun r _ => decide_eq_decide.2 (by omega)

/-- The list's sequences run from the oldest to the mark (R90). -/
theorem revocationLaw_sequences {x : Ru} (h : RevocationLaw x) :
    x.oldest = x.mark - x.list.length + 1 ∧ x.list.map RevRecord.seq = List.range' x.oldest x.list.length := by
  obtain ⟨-, hmark, hseq⟩ := h
  refine ⟨Nat.sub_add_comm hmark, ?_⟩
  rw [hseq, List.range'_eq_map_range]
  rfl

/-! ## Served pulls (R99): O44 -/

/-- A directed frame of a kind that its source may send, once time has passed. -/
theorem withFrame_directed {k : Kind} {f : RxFrame} {s : State} (h : hears s f 0) (hdest : isDirected s f)
    (hperm : k.permits (sourceClass f.src) = true) (htaken : k.takenDirected = true) (d : Nat)
    (owner : RxFrame → State → State) : withFrame k f owner (s.advance d) = owner f (heard f (s.advance d)) :=
  withFrame_of_dispatched (advance_hears h d) hperm (.inl ⟨by simpa [isDirected, State.cfg] using hdest, htaken⟩) owner

theorem heard_advance_list (s : State) (d : Nat) (f : RxFrame) :
    (heard f (s.advance d)).ru.list = s.ru.list ∧ (heard f (s.advance d)).ru.mark = s.ru.mark := by
  obtain ⟨-, -, -, -, -, hlist, hmark, -⟩ := advance_still s d
  rw [(heard_frame f (s.advance d)).2.2.2]
  exact ⟨hlist, hmark⟩

/-- A pull from a sequence within the list is served with the records from it on (R99). -/
theorem servedPull_within {s : State} (h : RevocationLaw s.ru) {f : RxFrame} {b : Nat} (hmark : b ≤ s.ru.mark)
    (holdest : s.ru.oldest ≤ b) :
    servedPull f b s = reply .revokePush f
      ([0, BitVec.ofNat 8 (min 8 (s.ru.mark - b + 1))] ++
        (s.ru.list.filter fun r => decide (b ≤ r.seq ∧ r.seq ≤ b + 7)).flatMap RevRecord.bytes) s := by
  obtain ⟨-, hseq⟩ := revocationLaw_sequences h
  have hlength : ((s.ru.list.drop (b - s.ru.oldest)).take 8).length = min 8 (s.ru.mark - b + 1) := by
    have hle := h.2.1
    rw [List.length_take, List.length_drop]
    unfold Ru.oldest at holdest ⊢
    omega
  rw [drop_take_eq_filter hseq holdest] at hlength
  simp only [servedPull, if_neg (Nat.not_lt.2 hmark), if_neg (Nat.not_lt.2 holdest), drop_take_eq_filter hseq holdest, hlength]

/-- Settles O44: the case of R99 is chosen by the mark and the oldest, and the records served are those from the sequence on. -/
theorem pullsAreServedFromTheList : Obligations.PullsAreServedFromTheList := by
  intro s d f hf hsource hdest hlaw u v from' oldest
  have hexec : exec (.revokePull d f) s = .next (takePull f v) :=
    congrArg _ (withFrame_directed hf hdest (by rw [sourceClass_station hsource]; decide) (by decide) d takePull)
  have hserved (hlen : f.payload.length = 4) : takePull f v = servedPull f from' v := if_pos hlen
  have hv : RevocationLaw v.ru := by
    obtain ⟨hlist, hmark⟩ := heard_advance_list s d f
    simpa [RevocationLaw, v, u, hlist, hmark] using hlaw
  have holdest : v.ru.oldest = oldest := (revocationLaw_sequences hv).1
  refine ⟨fun hlen => ?_, fun hlen habove => ?_, fun hlen hmark hbelow => ?_, fun hlen hmark hin => ?_⟩
  · rw [hexec, takePull, if_neg hlen]
  · rw [hexec, hserved hlen, servedPull, if_pos habove]
  · rw [hexec, hserved hlen, servedPull, if_neg (Nat.not_lt.2 hmark), holdest, if_pos hbelow]
  · rw [hexec, hserved hlen, servedPull_within hv hmark (holdest ▸ hin)]
    rfl

/-! ## The send test (R97): O45 -/

theorem idxOf_rising {l : List Neighbour} (h : l.Pairwise fun m n => m.address < n.address) {m n : Neighbour} (hm : m ∈ l)
    (hn : n ∈ l) (hle : l.idxOf n ≤ l.idxOf m) : n.address ≤ m.address := by
  rcases Nat.eq_or_lt_of_le hle with heq | hlt
  · rw [(List.idxOf_inj hn).1 heq]
  · have hrising := List.pairwise_iff_getElem.1 h _ _ (List.idxOf_lt_length_of_mem hn) (List.idxOf_lt_length_of_mem hm) hlt
    rw [List.getElem_idxOf, List.getElem_idxOf] at hrising
    exact hrising.le

/-- In rising address order the first of the entries with the greatest key is the one of the lowest address. -/
theorem mem_argmax_rising {key : Neighbour → Nat} {l : List Neighbour} (h : l.Pairwise fun m n => m.address < n.address)
    {n : Neighbour} (hn : n ∈ l.argmax key) :
    n ∈ l ∧ ∀ m ∈ l, key m < key n ∨ (key m = key n ∧ n.address ≤ m.address) := by
  obtain ⟨hmem, hmax, hfirst⟩ := List.mem_argmax_iff.1 hn
  refine ⟨hmem, fun m hm => (hmax m hm).lt_or_eq.imp_right fun heq => ⟨heq, ?_⟩⟩
  exact idxOf_rising h hm hmem (hfirst m hm heq.ge)

/-- The fold that chooses the neighbour to ask is Mathlib's search for a greatest element. -/
theorem foldl_higherMark (l : List Neighbour) : l.foldl higherMark none = l.argmax Neighbour.mark := by
  rw [List.argmax]
  congr 1
  funext o n
  cases o <;> rfl

theorem bestNeighbour_none {s : State} (h : s.nu.table.filter (fun n => decide (s.ru.mark < n.mark)) = []) :
    bestNeighbour s = none := by
  rw [bestNeighbour, h]
  rfl

/-- While an entry's mark is above the own, the best neighbour is the one of the highest mark, the lower address on equal marks. -/
theorem bestNeighbour_some {s : State} (hrising : s.nu.table.Pairwise fun m n => m.address < n.address)
    (h : s.nu.table.filter (fun n => decide (s.ru.mark < n.mark)) ≠ []) :
    ∃ n ∈ s.nu.table.filter (fun n => decide (s.ru.mark < n.mark)), bestNeighbour s = some n.address ∧
      ∀ m ∈ s.nu.table.filter (fun n => decide (s.ru.mark < n.mark)),
        m.mark < n.mark ∨ (m.mark = n.mark ∧ n.address ≤ m.address) := by
  have hbest : ∃ n, n ∈ (s.nu.table.filter fun n => decide (s.ru.mark < n.mark)).argmax Neighbour.mark :=
    Option.ne_none_iff_exists'.1 (mt List.argmax_eq_none.1 h)
  obtain ⟨n, hn⟩ := hbest
  obtain ⟨hmem, hmax⟩ := mem_argmax_rising (hrising.filter _) hn
  refine ⟨n, hmem, ?_, hmax⟩
  rw [bestNeighbour, foldl_higherMark, Option.mem_def.1 hn, Option.map_some]

/-- No pull goes that is not wanted, while another is outstanding, or within 10 s of the last (R97). -/
theorem testPull_waits {s : State} (h : s.ru.wanted = none ∨ s.ru.outstanding.isSome = true ∨ s.ru.holdoff.us < 10000000) :
    testPull s = s := by
  unfold testPull
  cases hwanted : s.ru.wanted with
  | none => rfl
  | some p =>
    refine if_neg fun hgo => ?_
    rcases h with h | h | h
    · rw [hwanted] at h
      cases h
    · rw [hgo.1] at h
      cases h
    · exact absurd hgo.2 (Nat.not_le.2 h)

/-- A wanted pull that may go does, when its target names a station (R97). -/
theorem testPull_goes {s : State} {p : PullTarget × Nat} (hfree : s.ru.outstanding = none)
    (hholdoff : 10000000 ≤ s.ru.holdoff.us) (hwanted : s.ru.wanted = some p) :
    testPull s = match p.1.resolve s with
      | some a => sendPull a s
      | none => s := by
  rw [testPull, hwanted]
  exact if_pos ⟨hfree, hholdoff⟩

/-- The pull that goes to an address (R97). -/
theorem sendPull_eq (a : Nat) (s : State) :
    sendPull a s = { offer (originFrame .revokePull (BitVec.ofNat 8 a) (be32 (s.ru.mark + 1))) s with
      ru := { s.ru with wanted := none, outstanding := some ⟨a, .start⟩, holdoff := .start } } := by
  have hru : (offer (originFrame .revokePull (BitVec.ofNat 8 a) (be32 (s.ru.mark + 1))) s).ru = s.ru := by simp
  rw [sendPull, hru]
  rfl

/-! ## What makes the send test (R98, R100) -/

theorem pullIsTo_iff (s : State) (f : RxFrame) : pullIsTo s f = true ↔ ∃ o ∈ s.ru.outstanding, o.target = f.src.toNat := by
  simp [pullIsTo, Option.any_eq_true]

/-- A gap beyond the mark is noted before the pull ends (R98, R100). -/
theorem endPull_noteGap {s : State} {g : Nat} (h : s.ru.mark < g) :
    endPull (noteGap g s) =
      let t := raise .dirGap 0 s
      testPull { t with ru := { t.ru with outstanding := none, gapMark := some (max g (s.ru.gapMark.getD 0)) } } := by
  have hru : (raise .dirGap 0 s).ru = s.ru := by simp
  simp only [noteGap, if_pos h, endPull, hru]
  rfl

/-- Settles O45: the send test is decided by the wanted pull, the outstanding one and the holdoff, and each event makes it. -/
theorem pullsGoWhenTheTestPasses : Obligations.PullsGoWhenTheTestPasses := by
  refine ⟨fun s hlaw => ?_, fun s d f hf hsource hdest => ?_, fun s d hrun => ?_⟩
  · intro sent above
    refine ⟨testPull_waits, fun hfree hholdoff p hwanted => ?_, fun target w => rfl⟩
    have hgoes := testPull_goes hfree hholdoff hwanted
    have hsent {a : Nat} (h : p.1.resolve s = some a) : testPull s = sent a := by
      rw [hgoes, h]
      exact sendPull_eq a s
    refine ⟨fun a htarget => hsent (by rw [htarget]; rfl), fun htarget hnone => ?_, fun htarget hsome => ?_⟩
    · have hresolve : p.1.resolve s = none := by
        rw [htarget]
        exact bestNeighbour_none hnone
      rw [hgoes, hresolve]
    · obtain ⟨n, hmem, hbest, hmax⟩ := bestNeighbour_some hlaw.2.1 hsome
      exact ⟨n, hmem, hsent (by rw [htarget]; exact hbest), hmax⟩
  · intro v own g
    have hexec : exec (.revokeGap d f) s = .next (takeGap f v) :=
      congrArg _ (withFrame_directed hf hdest (by rw [sourceClass_station hsource]; decide) (by decide) d takeGap)
    have hown : (f.payload.length = 8 ∧ pullIsTo v f = true) ↔ own := and_congr_right fun _ => pullIsTo_iff v f
    refine ⟨fun h => ?_, fun h hgap => ?_, fun h hgap => ?_⟩
    · rw [hexec, takeGap, if_neg (mt hown.1 h)]
    · rw [hexec, takeGap, if_pos (hown.2 h), endPull_noteGap hgap]
    · rw [hexec, takeGap, if_pos (hown.2 h), noteGap, if_neg (Nat.not_lt.2 hgap)]
      rfl
  · intro u
    have hrun : u.inRun = true := (advance_phase s d).1.trans hrun
    refine ⟨fun h => ?_, fun h => ?_, fun h => ?_, fun h => ?_⟩
    · exact congrArg _ (if_pos (by rw [hrun, h]; rfl))
    · exact congrArg _ (if_neg (by rw [h]; simp))
    · exact congrArg _ (if_pos (by rw [hrun, h]; rfl))
    · exact congrArg _ (if_neg (by rw [h]; simp))

end Sys2Proof.PullProofs
end

section
/-! SUPPORT. The proofs of chapter 7: a beacon in the neighbour table, on the clock and for the wanted pull (R96, R129 to R136). -/

namespace Sys2Proof.BeaconProofs

open Sys2Proof.Machine Sys2Proof.Safety Sys2Proof.FillProofs Sys2Proof.StoreProofs Sys2Proof.PullProofs

/-! ## Offers and counts read and move CL, TU, LC and ACU alone -/

/-- The blocks that offers, counts and reports read and move, put onto another state. -/
def onto (x s : State) : State := { x with cl := s.cl, tu := s.tu, lc := s.lc, acu := s.acu }

/-- An operation neither reads nor moves any block but those. -/
def IsReport (op : State → State) : Prop := ∀ x s, op (onto x s) = onto x (op s)

section
variable {op op' : State → State}

theorem IsReport.id : IsReport fun s => s := fun _ _ => rfl

theorem IsReport.comp (h : IsReport op) (h' : IsReport op') : IsReport fun s => op (op' s) :=
  fun x s => (congrArg op (h' x s)).trans (h x (op' s))

theorem IsReport.ite {c : State → Bool} (hc : ∀ x s, c (onto x s) = c s) (h : IsReport op) (h' : IsReport op') :
    IsReport fun s => if c s then op s else op' s := fun x s => by
  simp only [hc]
  split
  · exact h x s
  · exact h' x s

theorem IsReport.setRu (h : IsReport op) (s : State) (r : Ru) : op (s.setRu r) = (op s).setRu r := calc
  op (s.setRu r) = (onto s (op s)).setRu r := h (s.setRu r) s
  _ = (op s).setRu r := congrArg (State.setRu · r) (h s s).symm

theorem IsReport.setNu (h : IsReport op) (s : State) (n : Nu) : op (s.setNu n) = (op s).setNu n := calc
  op (s.setNu n) = (onto s (op s)).setNu n := h (s.setNu n) s
  _ = (op s).setNu n := congrArg (State.setNu · n) (h s s).symm

end

theorem addCount_isReport (k : Counter) (n : Nat) : IsReport (addCount k n) := fun _ _ => rfl

theorem setPending_isReport (k : Cond) (c : Col) : IsReport (setPending k c) := fun _ _ => rfl

theorem placeFrame_isReport (f : TxFrame) : IsReport (placeFrame f) := fun x s => by
  have hcase : placementOf f (onto x s) = placementOf f s := rfl
  unfold placeFrame
  rw [hcase]
  cases placementOf f s <;> rfl

theorem offerAlarm_isReport : IsReport offerAlarm := .ite (fun _ _ => rfl) .id (placeFrame_isReport _)

theorem counterFullByAlarm_isReport : IsReport counterFullByAlarm :=
  .ite (fun _ _ => rfl) (offerAlarm_isReport.comp (setPending_isReport _ _)) .id

theorem announce_isReport : IsReport announce :=
  .ite (fun _ _ => rfl) (counterFullByAlarm_isReport.comp offerAlarm_isReport) offerAlarm_isReport

theorem takeEdge_isReport (k : Cond) (c : Col) (rise : Bool) : IsReport (takeEdge k c rise) :=
  .ite (fun _ _ => rfl) (announce_isReport.comp (setPending_isReport k c)) .id

theorem occur_isReport (k : Cond) (c : Col) : IsReport (occur k c) := .ite (fun _ _ => rfl) (takeEdge_isReport k c true) .id

theorem count_isReport (k : Counter) (n : Nat) : IsReport (count k n) :=
  .ite (fun _ _ => rfl) ((occur_isReport _ _).comp (addCount_isReport k n)) (addCount_isReport k n)

theorem offer_isReport (f : TxFrame) : IsReport (offer f) :=
  .ite (fun _ _ => rfl) ((occur_isReport _ _).comp (placeFrame_isReport f)) (placeFrame_isReport f)

/-- An offer moves TX_ABANDONED alone among the counters (R116). -/
theorem offer_counter {j : Counter} (h : j ≠ .txAbandoned) (f : TxFrame) (s : State) :
    (offer f s).acu.live.get j = s.acu.live.get j := by
  simp only [offer]
  split
  · exact (occur_counter h _ _ _).trans (placeFrame_counter h f s)
  · exact placeFrame_counter h f s

/-! ## The neighbour table (R129 to R131) -/

/-- An entry of a new address goes in before the first that is not below it. -/
theorem putNeighbour_new {e : Neighbour} {l : List Neighbour} (h : ∀ m ∈ l, m.address ≠ e.address) :
    putNeighbour e l =
      l.takeWhile (fun m => decide (m.address < e.address)) ++ e :: l.dropWhile (fun m => decide (m.address < e.address)) := by
  induction l with
  | nil => rfl
  | cons m l ih =>
    obtain ⟨hne, hrest⟩ := List.forall_mem_cons.1 h
    rw [putNeighbour, if_neg (Ne.symm hne)]
    rcases Nat.lt_or_gt_of_ne hne with hbelow | habove
    · rw [if_neg (Nat.lt_asymm hbelow), ih hrest, List.takeWhile_cons_of_pos (by simpa using hbelow),
        List.dropWhile_cons_of_pos (by simpa using hbelow), List.cons_append]
    · rw [if_pos habove, List.takeWhile_cons_of_neg (by simpa using habove.le),
        List.dropWhile_cons_of_neg (by simpa using habove.le), List.nil_append]

/-- An entry of an address in the table takes the place of the one that holds it. -/
theorem putNeighbour_held {e n : Neighbour} {l : List Neighbour} (hrising : l.Pairwise fun m n => m.address < n.address)
    (hn : n ∈ l) (haddress : n.address = e.address) :
    putNeighbour e l = l.map fun m => if m.address = e.address then e else m := by
  induction l with
  | nil => cases hn
  | cons m l ih =>
    obtain ⟨hhead, htail⟩ := List.pairwise_cons.1 hrising
    rw [putNeighbour, List.map_cons]
    rcases List.mem_cons.1 hn with rfl | hmem
    · have hrest : l.map (fun m => if m.address = e.address then e else m) = l :=
        (List.map_congr_left fun m hm => if_neg (haddress ▸ (hhead m hm).ne')).trans l.map_id
      rw [if_neg haddress.not_gt, if_pos haddress.symm, if_pos haddress, hrest]
    · have hbelow : m.address < e.address := haddress ▸ hhead n hmem
      rw [if_neg (Nat.lt_asymm hbelow), if_neg hbelow.ne', if_neg hbelow.ne, ih htail hmem]

/-- The fold that chooses the entry to evict is Mathlib's search for a greatest element. -/
theorem foldl_olderEntry (l : List Neighbour) : l.foldl olderEntry none = l.argmax Neighbour.age := by
  rw [List.argmax]
  congr 1
  funext o n
  cases o <;> rfl

/-- The entry evicted has the address of the oldest without a rank, the lower one on equal ages (R129). -/
theorem entryToEvict_address {l : List Neighbour} (hrising : l.Pairwise fun m n => m.address < n.address) {n : Neighbour}
    (hn : n ∈ l) (hrank : n.rank = none)
    (hmax : ∀ m ∈ l, m.rank = none → m.age < n.age ∨ (m.age = n.age ∧ n.address ≤ m.address)) :
    ∃ old, entryToEvict l = some old ∧ old.address = n.address := by
  have hunranked {m : Neighbour} : m ∈ l.filter (fun m => m.rank.isNone) ↔ m ∈ l ∧ m.rank = none := by simp
  have hmem := hunranked.2 ⟨hn, hrank⟩
  have hsome : ∃ old, old ∈ (l.filter fun m => m.rank.isNone).argmax Neighbour.age :=
    Option.ne_none_iff_exists'.1 (mt List.argmax_eq_none.1 (List.ne_nil_of_mem hmem))
  obtain ⟨old, hold⟩ := hsome
  obtain ⟨holdMem, holdMax⟩ := mem_argmax_rising (hrising.filter _) hold
  obtain ⟨hin, holdRank⟩ := hunranked.1 holdMem
  refine ⟨old, (foldl_olderEntry _).trans hold, ?_⟩
  have hfirst := holdMax n hmem
  have hother := hmax old hin holdRank
  omega

/-- The table after a beacon (R129). -/
def tableAfter (f : RxFrame) (s : State) : List Neighbour :=
  match s.nu.table.find? fun n => decide (n.address = f.src.toNat) with
  | some n => putNeighbour (updatedEntry s f n) s.nu.table
  | none =>
    match makePlace s.nu.table with
    | some l => putNeighbour (createdEntry s f) l
    | none => s.nu.table

/-- The beacons missed from a sender that the table holds, counted (R130). -/
def missedCounted (f : RxFrame) (s : State) : State :=
  match s.nu.table.find? fun n => decide (n.address = f.src.toNat) with
  | some n => count .beaconsMissed (missedBeacons n.lastSeq (byteAt f.payload 1)) s
  | none => s

theorem missedCounted_frame (f : RxFrame) (s : State) :
    (missedCounted f s).cl = s.cl ∧ (missedCounted f s).tu = s.tu ∧ (missedCounted f s).cd = s.cd ∧
    (missedCounted f s).ru = s.ru := by
  unfold missedCounted
  split <;> simp

theorem takeIntoTable_eq (f : RxFrame) (s : State) :
    takeIntoTable f s = (missedCounted f s).setNu { s.nu with table := tableAfter f s } := by
  unfold takeIntoTable missedCounted tableAfter
  cases s.nu.table.find? fun n => decide (n.address = f.src.toNat) with
  | some n => exact (count_isReport _ _).setNu s _
  | none => cases makePlace s.nu.table <;> rfl

section
variable {f : RxFrame} {s : State} {n : Neighbour}

/-- The streak counts to 3, where it makes the entry marginal (R131). -/
theorem updatedEntry_eq (s : State) (f : RxFrame) (n : Neighbour) :
    updatedEntry s f n =
      let streak := if f.margin = 7 then min 3 (n.streak + 1) else 0
      { createdEntry s f with
        rank := n.rank, streak := streak, marginal := decide (f.margin = 7 ∧ (n.marginal = true ∨ streak = 3)) } := by
  have hstreak : 3 ≤ nextStreak n f.margin ↔ nextStreak n f.margin = 3 := by
    unfold nextStreak
    split <;> omega
  have hmarginal : (decide (f.margin = 7) && (n.marginal || decide (3 ≤ nextStreak n f.margin))) =
      decide (f.margin = 7 ∧ (n.marginal = true ∨ nextStreak n f.margin = 3)) := by
    rw [Bool.eq_iff_iff]
    simp [hstreak]
  rw [updatedEntry, hmarginal]
  rfl

/-- A beacon from an address in the table updates its entry (R130, R131). -/
theorem tableAfter_held (hrising : s.nu.table.Pairwise fun m n => m.address < n.address)
    (hheld : s.nu.table.find? (fun n => decide (n.address = f.src.toNat)) = some n) :
    tableAfter f s = s.nu.table.map fun m => if m.address = f.src.toNat then updatedEntry s f n else m := by
  rw [tableAfter, hheld]
  exact putNeighbour_held (e := updatedEntry s f n) hrising (List.mem_of_find?_eq_some hheld)
    (of_decide_eq_true (List.find?_some hheld :))

/-- A beacon from another address creates an entry in the table that has a place for it (R129). -/
theorem tableAfter_new {l : List Neighbour}
    (hnew : s.nu.table.find? (fun n => decide (n.address = f.src.toNat)) = none) (hplace : makePlace s.nu.table = some l)
    (hsub : l ⊆ s.nu.table) :
    tableAfter f s = l.takeWhile (fun m => decide (m.address < f.src.toNat)) ++
      createdEntry s f :: l.dropWhile (fun m => decide (m.address < f.src.toNat)) := by
  have hother : ∀ m ∈ l, m.address ≠ f.src.toNat := fun m hm => by simpa using List.find?_eq_none.1 hnew m (hsub hm)
  rw [tableAfter, hnew, hplace]
  exact putNeighbour_new (e := createdEntry s f) hother

end

/-- A full table gives the place of its oldest entry without a rank (R129). -/
theorem makePlace_full {l : List Neighbour} (hrising : l.Pairwise fun m n => m.address < n.address) (hfull : l.length = 16)
    {n : Neighbour} (hn : n ∈ l) (hrank : n.rank = none)
    (hmax : ∀ m ∈ l, m.rank = none → m.age < n.age ∨ (m.age = n.age ∧ n.address ≤ m.address)) :
    makePlace l = some (l.filter fun m => decide (m.address ≠ n.address)) := by
  obtain ⟨old, hold, haddress⟩ := entryToEvict_address hrising hn hrank hmax
  rw [makePlace, if_neg (by rw [hfull]; decide), hold, Option.map_some, haddress]

/-! ## The adoption of a clock (R136, R138) -/

/-- The clock value after a beacon of a clock and hops (R136). -/
def clockTaken (clock : Word32) (hops : Nat) (x : Tu) : Word32 :=
  if hops + 1 < x.hops ∧ (x.hops = 15 ∨ x.clock.toNat + 2 < clock.toNat ∨ clock.toNat + 2 < x.clock.toNat) then clock
  else x.clock

/-- TU after it, the period index of the clock taken being `period` (R136, R138). -/
def timeAdopted (clock : Word32) (hops period : Nat) (x : Tu) : Tu :=
  if hops + 1 < x.hops then
    { clock := clockTaken clock hops x, hops := hops + 1, period := max x.period period, aging := ⟨0, true⟩ }
  else x

/-- CD after it: a greater period index zeroes every usage counter (R138). -/
def usageAdopted (hops period : Nat) (x : Tu) (y : Cd) : Cd :=
  if hops + 1 < x.hops ∧ x.period < period then { y with image := y.image.map fun p => (p.1, { p.2 with usage := 0 }) } else y

/-- The setting of a clock evaluates the period index at once, and never moves it back (R135, R138). -/
theorem setClock_eq {hops : Nat} (h : hops ≠ 15) (clock : Word32) (s : State) :
    setClock clock hops s =
      let period := clock.toNat / (s.cfg.periodDays * 86400)
      { s with
        tu := { clock := clock, hops := hops, period := max s.tu.period period, aging := ⟨0, true⟩ }
        cd := if s.tu.period < period then
          { s.cd with image := s.cd.image.map fun p => (p.1, { p.2 with usage := 0 }) } else s.cd } := by
  by_cases hgreater : s.tu.period < clock.toNat / (s.cfg.periodDays * 86400)
  · refine (if_pos ⟨h, hgreater⟩).trans ?_
    simp only [if_pos hgreater, max_eq_right hgreater.le]
    rfl
  · refine (if_neg fun he => hgreater he.2).trans ?_
    simp only [if_neg hgreater, max_eq_left (Nat.le_of_not_lt hgreater)]
    rfl

theorem adoptTime_eq {s : State} (h : s.tu.hops ≤ 15) (clock : Word32) (hops : Nat) :
    adoptTime clock hops s =
      let period := (clockTaken clock hops s.tu).toNat / (s.cfg.periodDays * 86400)
      { s with tu := timeAdopted clock hops period s.tu, cd := usageAdopted hops period s.tu s.cd } := by
  by_cases hnearer : hops + 1 < s.tu.hops
  · have hclock : adoptTime clock hops s = setClock (clockTaken clock hops s.tu) (hops + 1) s := by
      have happart : (s.tu.hops = unsetHops ∨ clocksApart clock s.tu.clock = true) ↔ (s.tu.hops = 15 ∨
          s.tu.clock.toNat + 2 < clock.toNat ∨ clock.toNat + 2 < s.tu.clock.toNat) := by
        simp [clocksApart, unsetHops, or_comm]
      simp only [adoptTime, clockTaken, happart, hnearer, true_and, if_true]
      split <;> rfl
    rw [hclock, setClock_eq (by omega)]
    simp only [timeAdopted, usageAdopted, hnearer, true_and, if_true]
  · simp only [adoptTime, timeAdopted, usageAdopted, hnearer, false_and, if_false]

/-! ## The mark handed to RU (R96, R97, R133) -/

/-- A pull for a mark goes at once (R96, R97). -/
abbrev pullGoes (mark : Nat) (x : Ru) : Prop := x.mark < mark ∧ x.outstanding = none ∧ 10000000 ≤ x.holdoff.us

/-- RU after a mark of a station (R96, R97). -/
def markHanded (a mark : Nat) (x : Ru) : Ru :=
  if mark ≤ x.mark then x
  else if x.outstanding = none ∧ 10000000 ≤ x.holdoff.us then
    { x with wanted := none, outstanding := some ⟨a, ⟨0, true⟩⟩, holdoff := ⟨0, true⟩ }
  else { x with wanted := some (.station a, mark) }

theorem handMark_eq (a mark : Nat) (s : State) :
    handMark a mark s =
      (if pullGoes mark s.ru then offer (originFrame .revokePull (BitVec.ofNat 8 a) (be32 (s.ru.mark + 1))) s else s).setRu
        (markHanded a mark s.ru) := by
  by_cases habove : s.ru.mark < mark
  · by_cases hgo : s.ru.outstanding = none ∧ 10000000 ≤ s.ru.holdoff.us
    · have hgoes := testPull_goes (s := s.setRu { s.ru with wanted := some (.station a, mark) }) hgo.1 hgo.2 rfl
      rw [handMark, if_pos habove, if_pos ⟨habove, hgo⟩, markHanded, if_neg (Nat.not_le.2 habove), if_pos hgo, wantPull, hgoes]
      refine (sendPull_eq a _).trans ?_
      rw [(offer_isReport _).setRu]
      rfl
    · rw [handMark, if_pos habove, if_neg (mt And.right hgo), markHanded, if_neg (Nat.not_le.2 habove), if_neg hgo, wantPull]
      refine testPull_waits (.inr ?_)
      rw [State.setRu_ru]
      by_cases hfree : s.ru.outstanding = none
      · exact .inr (Nat.lt_of_not_le fun h => hgo ⟨hfree, h⟩)
      · exact .inl (Option.isSome_iff_ne_none.2 hfree)
  · rw [handMark, if_neg habove, if_neg (mt And.left habove), markHanded, if_pos (Nat.le_of_not_lt habove)]
    rfl

/-! ## A beacon: O48 -/

theorem beaconFits_iff (l : List Byte) : beaconFits l = true ↔
    1 ≤ (byteAt l 12).toNat ∧ (byteAt l 12).toNat ≤ 4 ∧ l.length = 13 + 5 * (byteAt l 12).toNat := by
  simp [beaconFits, and_assoc]

/-- A BEACON of a station reaches its owner at any DEST (R108). -/
theorem withFrame_beacon {f : RxFrame} {s : State} (h : hears s f 0) (hsource : fromStation f)
    (owner : RxFrame → State → State) : withFrame .beacon f owner s = owner f (heard f s) := by
  obtain ⟨hrun, hlen, hsrc⟩ := h
  have hclass := sourceClass_station hsource
  have hheard : heard f s = count .framesRxOk 1 (hearFrame f (endReception s)) := rfl
  have hcl : (hearFrame f (endReception s)).cl = s.cl := by simp
  have hown : ¬((hearFrame f (endReception s)).cfg.ownAddress ≠ 0 ∧
      f.src.toNat = (hearFrame f (endReception s)).cfg.ownAddress) := by
    rw [State.cfg, hcl]
    exact fun he => hsrc he.1 he.2
  have hchecks : receiveFrame Kind.beacon.code f s = .dispatched (heard f s) := by
    rw [receiveFrame, if_neg (by simp [hrun]), if_neg (by omega), checkHeader, if_neg hown, if_neg (by simp), kindOf_code]
    simp [hclass, checkSix, Kind.owned, Kind.permits, addressingTaken, hheard]
  rw [withFrame, hchecks]

/-- The state in which a beacon's mark is handed to RU: the beacons missed are counted, the table and the clock are taken. -/
def beaconTaken (f : RxFrame) (s : State) : State :=
  let clock : Word32 := BitVec.ofNat 32 (fieldAt f.payload 2 4)
  let hops := (byteAt f.payload 6).toNat
  let period := (clockTaken clock hops s.tu).toNat / (s.cfg.periodDays * 86400)
  { missedCounted f s with
    nu := { s.nu with table := tableAfter f s }
    tu := timeAdopted clock hops period s.tu
    cd := usageAdopted hops period s.tu s.cd }

/-- What a beacon that fits its layout does (R129, R133). -/
theorem takeBeacon_eq {f : RxFrame} {s : State} (hfits : beaconFits f.payload = true) (hhops : s.tu.hops ≤ 15) :
    takeBeacon f s =
      (if pullGoes (fieldAt f.payload 7 4) s.ru then
        offer (originFrame .revokePull (BitVec.ofNat 8 f.src.toNat) (be32 (s.ru.mark + 1))) (beaconTaken f s)
      else beaconTaken f s).setRu (markHanded f.src.toNat (fieldAt f.payload 7 4) s.ru) := by
  obtain ⟨hcl, htu, hcd, hru⟩ := missedCounted_frame f s
  have htaken : adoptTime (BitVec.ofNat 32 (fieldAt f.payload 2 4)) (byteAt f.payload 6).toNat (takeIntoTable f s) =
      beaconTaken f s := by
    have hcfg : (missedCounted f s).cfg = s.cfg := congrArg Cl.image hcl
    rw [takeIntoTable_eq, adoptTime_eq (by rwa [State.setNu_tu, htu])]
    simp only [State.setNu_tu, State.setNu_cd, State.setNu_cfg, hcfg, htu, hcd]
    rfl
  have htakenRu : (beaconTaken f s).ru = s.ru := hru
  rw [takeBeacon, if_pos hfits, htaken, handMark_eq, htakenRu]

/-- A pull that goes leaves NU, TU, CD and BEACONS_MISSED. -/
theorem offer_leaves (g : TxFrame) (s : State) :
    (offer g s).nu = s.nu ∧ (offer g s).tu = s.tu ∧ (offer g s).cd = s.cd ∧
    (offer g s).acu.live.beaconsMissed = s.acu.live.beaconsMissed := by
  have hmissed : (offer g s).acu.live.beaconsMissed = s.acu.live.beaconsMissed :=
    offer_counter (j := .beaconsMissed) (by decide) g s
  simp [hmissed]

/-- The blocks after a beacon are those in which its mark is handed to RU, and RU as the mark leaves it. -/
theorem takeBeacon_blocks {f : RxFrame} {s : State} (hfits : beaconFits f.payload = true) (hhops : s.tu.hops ≤ 15) :
    (takeBeacon f s).nu = (beaconTaken f s).nu ∧ (takeBeacon f s).tu = (beaconTaken f s).tu ∧
    (takeBeacon f s).cd = (beaconTaken f s).cd ∧
    (takeBeacon f s).acu.live.beaconsMissed = (missedCounted f s).acu.live.beaconsMissed ∧
    (takeBeacon f s).ru = markHanded f.src.toNat (fieldAt f.payload 7 4) s.ru := by
  obtain ⟨hnu, htu, hcd, hmissed⟩ :=
    offer_leaves (originFrame .revokePull (BitVec.ofNat 8 f.src.toNat) (be32 (s.ru.mark + 1))) (beaconTaken f s)
  rw [takeBeacon_eq hfits hhops]
  split
  · exact ⟨hnu, htu, hcd, hmissed, rfl⟩
  · exact ⟨rfl, rfl, rfl, rfl, rfl⟩

theorem missedCounted_held {f : RxFrame} {s : State} {n : Neighbour}
    (hheld : s.nu.table.find? (fun n => decide (n.address = f.src.toNat)) = some n) :
    (missedCounted f s).acu.live.beaconsMissed =
      min 65535 (s.acu.live.beaconsMissed + missedBeacons n.lastSeq (byteAt f.payload 1)) := by
  rw [missedCounted, hheld]
  exact count_counter (k := .beaconsMissed) (by decide) _ s

theorem missedCounted_new {f : RxFrame} {s : State}
    (hnew : s.nu.table.find? (fun n => decide (n.address = f.src.toNat)) = none) : missedCounted f s = s := by
  rw [missedCounted, hnew]

/-- What hearing a frame leaves of the blocks that a beacon reads. -/
theorem heard_blocks (f : RxFrame) (s : State) :
    (heard f s).nu = s.nu ∧ (heard f s).tu = s.tu ∧ (heard f s).cd = s.cd ∧ (heard f s).ru = s.ru ∧
    (heard f s).cfg = s.cfg := by
  simp [heard, State.cfg]

/-- What time leaves of the table and of the hops. -/
theorem advance_table_hops (s : State) (d : Nat) :
    (s.advance d).nu.table = s.nu.table ∧ (s.advance d).tu.hops = s.tu.hops := by
  obtain ⟨-, -, -, -, -, -, -, -, -, -, -, -, -, -, htable, -, -, -, hhops, -⟩ := advance_blocks s d 0
  exact ⟨htable, hhops⟩

/-- Settles O48: a beacon is counted, taken into the table and its clock adopted, before its mark is handed to RU. -/
theorem beaconsKeepTheTable : Obligations.BeaconsKeepTheTable := by
  intro s d f hf hsource hlaw hhops u v b a count' fits entry held clock hops apart adopted newClock period
  obtain ⟨hnu, htu, hcd, hru, hcfg⟩ : v.nu = u.nu ∧ v.tu = u.tu ∧ v.cd = u.cd ∧ v.ru = u.ru ∧ v.cfg = u.cfg :=
    heard_blocks f u
  obtain ⟨htableEq, hhopsEq⟩ := advance_table_hops s d
  have hexec : exec (.beacon d f) s = .next (takeBeacon f v) :=
    congrArg _ (withFrame_beacon (advance_hears hf d) hsource takeBeacon)
  refine ⟨fun h => ?_, fun h => ⟨takeBeacon f v, hexec, ?_⟩⟩
  · rw [hexec, takeBeacon, if_neg (mt (beaconFits_iff b).1 h)]
  have hrising : v.nu.table.Pairwise fun m n => m.address < n.address := by
    rw [hnu, htableEq]
    exact hlaw.2.1
  have hfits := (beaconFits_iff b).2 h
  have hvhops : v.tu.hops ≤ 15 := by rwa [htu, hhopsEq]
  have hcreated : createdEntry v f = entry := by
    rw [createdEntry, rankOf, hcfg]
    rfl
  have hheld : v.nu.table.find? (fun n => decide (n.address = a)) = held := by rw [hnu]
  have htaken : beaconTaken f v = { missedCounted f v with
      nu := { v.nu with table := tableAfter f v }
      tu := timeAdopted clock hops period u.tu
      cd := usageAdopted hops period u.tu u.cd } := by
    simp only [beaconTaken, htu, hcd, hcfg]
    rfl
  obtain ⟨hnuAfter, htuAfter, hcdAfter, hmissed, hruAfter⟩ := takeBeacon_blocks hfits hvhops
  rw [htaken] at hnuAfter htuAfter hcdAfter
  change (takeBeacon f v).tu = timeAdopted clock hops period u.tu at htuAfter
  change (takeBeacon f v).cd = usageAdopted hops period u.tu u.cd at hcdAfter
  have htable : (takeBeacon f v).nu.table = tableAfter f v := congrArg Nu.table hnuAfter
  refine ⟨?_, fun n hn => ⟨?_, ?_⟩, fun hnew => ?_, fun hnew hroom => ?_, fun hnew hfull n hn hrank hmax => ?_, ?_, ?_, ?_⟩
  · intro w x pull sends
    have hw : missedCounted f v = w := by
      rw [missedCounted, hheld]
      rfl
    have hx : beaconTaken f v = x := by
      rw [htaken, ← htable, ← htuAfter, ← hcdAfter, hw]
    have heq := takeBeacon_eq hfits hvhops
    rw [hx, ← hruAfter, hru] at heq
    exact heq
  · rw [htable, tableAfter_held hrising (hheld.trans hn), updatedEntry_eq, hcreated, hnu]
  · exact hmissed.trans (missedCounted_held (hheld.trans hn))
  · rw [hmissed, missedCounted_new (hheld.trans hnew)]
  · rw [htable, tableAfter_new (hheld.trans hnew) (if_pos (hnu ▸ hroom)) (List.Subset.refl _), hcreated, hnu]
  · rw [← hnu] at hfull hn hmax
    rw [htable, tableAfter_new (hheld.trans hnew) (makePlace_full hrising hfull hn hrank hmax) (List.filter_subset_self _),
      hcreated, hnu]
  · exact htuAfter
  · exact hcdAfter
  · rw [hruAfter, hru]
    rfl

end Sys2Proof.BeaconProofs
end

section
/-! SUPPORT. The proofs of chapter 7, continued: the clock, the period index and the hops (R134 to R138), and the beacon timers
and the age of the neighbours (R126, R127, R132). -/

namespace Sys2Proof.TimeProofs

open Sys2Proof.Machine Sys2Proof.Safety Sys2Proof.StoreProofs Sys2Proof.BeaconProofs

/-! ## TIME: O46 -/

/-- A clock value of four bytes is its own 32-bit word. -/
theorem toNat_clockField (l : List Byte) (i : Nat) : (BitVec.ofNat 32 (fieldAt l i 4)).toNat = fieldAt l i 4 := by
  rw [BitVec.toNat_ofNat]
  exact Nat.mod_eq_of_lt (fieldAt_four_lt l i)

/-- Settles O46: a TIME that is heard reaches TU, which sets its clock with hops 0. -/
theorem timeSetsTheClock : Obligations.TimeSetsTheClock := by
  intro s d f hf hsource hdest u v clock period
  have hexec : exec (.timeFrame d f) s = .next (takeTime f v) :=
    congrArg _ (withFrame_advance hf hdest (by rw [sourceClass_gateway hsource]; rfl) ⟨rfl, rfl⟩ d takeTime)
  obtain ⟨-, htu, hcd, -, hcfg⟩ : v.nu = u.nu ∧ v.tu = u.tu ∧ v.cd = u.cd ∧ v.ru = u.ru ∧ v.cfg = u.cfg :=
    heard_blocks f u
  refine ⟨fun h => ?_, fun h => ?_⟩
  · rw [hexec, takeTime, if_neg h]
  · rw [hexec, takeTime, if_pos h, setClock_eq (by decide)]
    simp only [toNat_clockField, htu, hcd, hcfg]
    rfl

/-! ## CLOCK_SECOND and HOP_AGING_EXPIRY: O47 -/

/-- The evaluation of the period index moves it forward alone, and zeroes the usage counters as it moves (R138). -/
theorem evaluatePeriod_eq (s : State) :
    evaluatePeriod s =
      let rolls := s.tu.hops ≠ 15 ∧ s.tu.period < periodOf s
      { s with
        tu := { s.tu with period := if rolls then periodOf s else s.tu.period }
        cd := if rolls then { s.cd with image := s.cd.image.map fun p => (p.1, { p.2 with usage := 0 }) } else s.cd } := by
  by_cases hrolls : s.tu.hops ≠ 15 ∧ s.tu.period < periodOf s
  · refine (if_pos hrolls).trans ?_
    simp only [if_pos hrolls]
    rfl
  · refine (if_neg hrolls).trans ?_
    simp only [if_neg hrolls]

/-- Settles O47: a second is counted and then evaluated in RUN, and an aging expiry is taken while the clock is set. -/
theorem theClockCountsAndAges : Obligations.TheClockCountsAndAges := by
  refine ⟨fun s d hpower => ?_, fun s d hrun => ⟨fun hset hages => ?_, fun hidle => ?_⟩⟩
  · intro u clock period rolls
    have hpowered : u.cl.powered = true := by rwa [(advance_frame s d).1]
    have hphase : u.inRun = s.inRun := (advance_phase s d).1
    have hexec : exec (.clockSecond d) s = .next (if u.inRun then evaluatePeriod (tickClock u) else tickClock u) :=
      congrArg _ (if_pos hpowered)
    rw [hexec, hphase]
    by_cases hrun : s.inRun = true
    · have hrolls : rolls ↔ u.tu.hops ≠ 15 ∧ u.tu.period < period := and_iff_right hrun
      rw [if_pos hrun, evaluatePeriod_eq]
      simp only [hrolls]
      rfl
    · rw [if_neg hrun]
      simp only [if_neg (mt And.left hrun : ¬rolls)]
      rfl
  · have hinRun : (s.advance d).inRun = true := (advance_phase s d).1.trans hrun
    have hhops (h : Nat) : min 14 (h + 1) = if h < 14 then h + 1 else 14 := by split <;> omega
    rw [← hhops]
    exact congrArg _ (if_pos (by simp [hinRun, hset, hages, unsetHops]))
  · refine congrArg _ (if_neg ?_)
    rcases hidle with hunset | hstopped
    · simp [hunset, unsetHops]
    · simp [hstopped]

/-! ## The beacon timers and the ages: O49 -/

/-- The offer of a BEACON, met when one is queued (R115). -/
def beaconOffered (s : State) : State := if s.queued .beacon then s else offer beaconFrame s

/-- NU offers a BEACON and draws the periodic timer from the range of R126. -/
theorem offerBeacon_eq (s : State) :
    offerBeacon s = { beaconOffered s with
      nu := { s.nu with periodicLeft := (offerBeacon s).nu.periodicLeft }, freeIndex := s.freeIndex + 1 } := by
  have hnu : (beaconOffered s).nu = s.nu := by unfold beaconOffered; split <;> simp
  have hfree : (beaconOffered s).freeIndex = s.freeIndex := by unfold beaconOffered; split <;> simp
  rw [← hnu, ← hfree]
  rfl

theorem offerBeacon_periodicLeft (s : State) :
    ∃ j ≤ s.cfg.beaconInterval * 25 / 100, (offerBeacon s).nu.periodicLeft = (s.cfg.beaconInterval + j) * 1000000 :=
  ⟨_, (drawUpTo_spec (s.cfg.beaconInterval * 25 / 100) (beaconOffered s)).1, rfl⟩

theorem beaconOffered_eq (s : State) :
    beaconOffered s = if ∃ g ∈ s.lc.queue, g.kind = .beacon then s else offer beaconFrame s := by
  simp [beaconOffered, State.queued]

/-- The table one second older is the entries not too old for it, each a second older (R132). -/
theorem agedTable_eq (s : State) :
    agedTable s = (s.nu.table.filter fun n => decide (n.age + 1 ≤ 10 * s.cfg.beaconInterval)).map fun n =>
      { n with age := n.age + 1 } := List.filter_map

/-- Settles O49: every beacon command ends in the offer, in the stopped holdoff or in the early flag. -/
theorem beaconTimersAndAges : Obligations.BeaconTimersAndAges := by
  intro s d hrun u frame offered stopped
  have hinRun : u.inRun = true := (advance_phase s d).1.trans hrun
  have hoffered (v : State) : offered v (offerBeacon v) :=
    ⟨(offerBeacon_eq v).trans (by rw [beaconOffered_eq]; rfl), offerBeacon_periodicLeft v⟩
  have hexpires (h : u.nu.holdoff.running = true) : exec (.beaconHoldoffExpiry d) s = .next (holdoffExpires u) :=
    congrArg _ (if_pos (by rw [hinRun, h]; rfl))
  refine ⟨⟨offerBeacon u, congrArg _ (if_pos hinRun), hoffered u⟩,
    fun hruns hearly => ⟨offerBeacon stopped, ?_, hoffered stopped⟩, fun hruns hearly => ?_, fun hstopped => ?_,
    fun hruns => ?_, fun hstopped => ?_, ?_⟩
  · rw [hexpires hruns]
    exact congrArg _ (if_pos hearly)
  · rw [hexpires hruns]
    exact congrArg _ (if_neg (by simp [hearly]))
  · exact congrArg _ (if_neg (by rw [hinRun, hstopped]; decide))
  · rw [summaryChange, if_pos hinRun, if_pos hruns]
    rfl
  · rw [summaryChange, if_pos hinRun, if_neg (by simp [hstopped])]
    exact hoffered u
  · rw [← agedTable_eq]
    exact congrArg _ (if_pos hinRun)

end Sys2Proof.TimeProofs
end

section
/-! SUPPORT. What the shared operations leave of the neighbour table, in the order of the definitions: NU's timers, sequence and
early flag follow a summary change and a BEACON that is formed, and the table stands. -/

namespace Sys2Proof.TimeProofs

open Sys2Proof.Machine

section
variable (c : Col) (s : State)

/-! ## Beacons and frames sent -/

@[simp] theorem offerBeacon_table : (offerBeacon s).nu.table = s.nu.table := by rw [offerBeacon_eq]

@[simp] theorem summaryChange_table : (summaryChange s).nu.table = s.nu.table := by
  unfold summaryChange
  (repeat' split) <;> simp

@[simp] theorem startTransmission_table (f : TxFrame) : (startTransmission f s).nu.table = s.nu.table := by
  simp only [startTransmission]
  split <;> rfl

@[simp] theorem waitSlots_table (f : TxFrame) (n : Nat) : (waitSlots f n s).nu.table = s.nu.table := by
  unfold waitSlots
  split <;> simp

@[simp] theorem enterBackoff_table (f : TxFrame) : (enterBackoff f s).nu.table = s.nu.table := by
  unfold enterBackoff
  split <;> simp [drawUpTo]

@[simp] theorem gapIfPassed_table : (gapIfPassed s).nu.table = s.nu.table := by
  unfold gapIfPassed
  (repeat' split) <;> simp

/-! ## A container's states -/

@[simp] theorem enterState_table (st : CcState) : (enterState c st s).nu.table = s.nu.table := by
  simp only [enterState]
  split <;> simp

@[simp] theorem goByClass_table : (goByClass c s).nu.table = s.nu.table := by simp [goByClass]

@[simp] theorem leaveFault_table : (leaveFault c s).nu.table = s.nu.table := by
  simp only [leaveFault]
  split <;> simp

@[simp] theorem goFault_table : (goFault c s).nu.table = s.nu.table := by simp [goFault]

@[simp] theorem enterHeld_table (r : Word16) : (enterHeld c r s).nu.table = s.nu.table := by simp [enterHeld]

@[simp] theorem leaveHeld_table : (leaveHeld c s).nu.table = s.nu.table := by simp [leaveHeld]

@[simp] theorem endGrant_table (r : EndReason) : (endGrant c r s).nu.table = s.nu.table := by
  simp only [endGrant]
  split <;> simp

@[simp] theorem curtail_table (r : EndReason) : (curtail c r s).nu.table = s.nu.table := by
  simp only [curtail]
  (repeat' split) <;> simp

@[simp] theorem takeClaim_table (r : Word16) : (takeClaim c r s).nu.table = s.nu.table := by
  simp only [takeClaim]
  (repeat' split) <;> simp

@[simp] theorem takeGrant_table : (takeGrant c s).nu.table = s.nu.table := by simp [takeGrant]

@[simp] theorem issueGrant_table (g : Grant) : (issueGrant c g s).nu.table = s.nu.table := by
  simp only [issueGrant]
  split <;> simp

@[simp] theorem answerRequest_table (g : Grant) : (answerRequest c g s).nu.table = s.nu.table := by
  unfold answerRequest
  split <;> simp

/-! ## Measurements and the fill -/

@[simp] theorem classReport_table (k : FillClass) : (classReport c k s).nu.table = s.nu.table := by
  simp only [classReport]
  split <;> simp

@[simp] theorem acceptanceReport_table : (acceptanceReport c s).nu.table = s.nu.table := by
  unfold acceptanceReport
  split <;> simp

@[simp] theorem failureReport_table : (failureReport c s).nu.table = s.nu.table := by
  simp only [failureReport]
  (repeat' split) <;> simp

@[simp] theorem reportClass_table (k : FillClass) : (reportClass c k s).nu.table = s.nu.table := by
  simp only [reportClass]
  split <;> simp

@[simp] theorem feDeposit_table : (feDeposit c s).nu.table = s.nu.table := by
  simp only [feDeposit]
  (repeat' split) <;> simp

@[simp] theorem fillReset_table : (fillReset c s).nu.table = s.nu.table := by simp [fillReset]

@[simp] theorem echoFailure_table : (echoFailure c s).nu.table = s.nu.table := by
  simp only [echoFailure]
  split <;> simp

@[simp] theorem acceptCandidate_table (m : Nat) : (acceptCandidate c m s).nu.table = s.nu.table := by simp [acceptCandidate]

@[simp] theorem inferEmptying_table (m : Nat) : (inferEmptying c m s).nu.table = s.nu.table := by simp [inferEmptying]

@[simp] theorem validReading_table (r : Nat) : (validReading c r s).nu.table = s.nu.table := by
  simp only [validReading]
  (repeat' split) <;> simp

@[simp] theorem takeEchoResult_table (r : EchoResult) (c10 : Nat) : (takeEchoResult c r c10 s).nu.table = s.nu.table := by
  unfold takeEchoResult
  split <;> simp

@[simp] theorem endMeasurement_table (m : Measurement) (r : EchoResult) : (endMeasurement m r s).nu.table = s.nu.table := by
  simp [endMeasurement]

/-! ## Inputs -/

@[simp] theorem drumOpenEvent_table : (drumOpenEvent c s).nu.table = s.nu.table := by
  simp only [drumOpenEvent, openUnderGrant]
  split <;> simp

@[simp] theorem completeCycle_table : (completeCycle c s).nu.table = s.nu.table := by simp [completeCycle]

@[simp] theorem decideClosing_table (a b : Bool) : (decideClosing c a b s).nu.table = s.nu.table := by
  unfold decideClosing returnToGranted
  (repeat' split) <;> simp

@[simp] theorem endOpening_table : (endOpening c s).nu.table = s.nu.table := by
  simp only [endOpening]
  split <;> simp

@[simp] theorem drumClosedEvent_table : (drumClosedEvent c s).nu.table = s.nu.table := by
  simp only [drumClosedEvent]
  split <;> simp

@[simp] theorem lockSenseEvent_table (l : LockLevel) : (lockSenseEvent c l s).nu.table = s.nu.table := by
  simp only [lockSenseEvent]
  split <;> simp

@[simp] theorem liftContainer_table : (liftContainer c s).nu.table = s.nu.table := by
  simp only [liftContainer]
  (repeat' split) <;> simp

@[simp] theorem containerAbsentEvent_table : (containerAbsentEvent c s).nu.table = s.nu.table := by
  simp only [containerAbsentEvent]
  split <;> simp

@[simp] theorem afterReturn_table : (afterReturn c s).nu.table = s.nu.table := by
  simp only [afterReturn]
  split <;> simp

@[simp] theorem returnContainer_table : (returnContainer c s).nu.table = s.nu.table := by simp [returnContainer]

@[simp] theorem containerPresentEvent_table : (containerPresentEvent c s).nu.table = s.nu.table := by
  simp only [containerPresentEvent]
  split <;> simp

@[simp] theorem inputEvent_table (l : InputLevel) : (inputEvent c s l).nu.table = s.nu.table := by
  unfold inputEvent
  split <;> simp

@[simp] theorem inputChange_table (l : InputLevel) : (inputChange c l s).nu.table = s.nu.table := by
  unfold inputChange
  (repeat' split) <;> simp

@[simp] theorem inputSettles_table (l : InputLevel) : (inputSettles c l s).nu.table = s.nu.table := by
  unfold inputSettles
  (repeat' split) <;> simp

/-! ## Revocations -/

@[simp] theorem blockCard_table (card : Word32) : (blockCard card s).nu.table = s.nu.table := by
  unfold blockCard
  (repeat' split) <;> simp

@[simp] theorem announceRecord_table (r : RevRecord) : (announceRecord r s).nu.table = s.nu.table := by
  simp only [announceRecord]
  split <;> simp

@[simp] theorem applyNext_table (f : RxFrame) (r : RevRecord) : (applyNext f r s).nu.table = s.nu.table := by
  simp only [applyNext]
  split <;> simp

@[simp] theorem applyJump_table (f : RxFrame) (r : RevRecord) : (applyJump f r s).nu.table = s.nu.table := by
  simp only [applyJump]
  split <;> simp

end

end Sys2Proof.TimeProofs
end

section
/-! SUPPORT. The proofs of chapter 7, continued: the operations that leave CL, the neighbour table and TU alone. -/

namespace Sys2Proof.TimeProofs

open Sys2Proof.Machine Sys2Proof.Safety Sys2Proof.FillProofs Sys2Proof.StoreProofs Sys2Proof.BeaconProofs

/-- CL, the neighbour table and TU are as they were. -/
def Quiet (s t : State) : Prop := t.cl = s.cl ∧ t.nu.table = s.nu.table ∧ t.tu = s.tu

section
variable {s t u : State}

theorem Quiet.refl (s : State) : Quiet s s := ⟨rfl, rfl, rfl⟩

theorem Quiet.trans (h : Quiet s t) (h' : Quiet t u) : Quiet s u :=
  ⟨h'.1.trans h.1, h'.2.1.trans h.2.1, h'.2.2.trans h.2.2⟩

theorem Quiet.ite {p : Prop} [Decidable p] (ht : Quiet s t) (hu : Quiet s u) : Quiet s (if p then t else u) := by
  split <;> assumption

end

theorem cardReadTaken_quiet (c : Col) (card : Word32) (issue : Byte) (bad : Bool) (s : State) :
    Quiet s (cardReadTaken c card issue bad s) := by
  unfold cardReadTaken
  (repeat' split) <;> simp [Quiet]

theorem repeatTaken_quiet (c : Col) (s : State) : Quiet s (repeatTaken c s) := by
  unfold repeatTaken
  split <;> simp [Quiet]

theorem confirmationExpires_quiet (c : Col) (s : State) : Quiet s (confirmationExpires c s) := by
  simp only [confirmationExpires, failGrant]
  split <;> simp [Quiet]

theorem placeHeld_quiet (l : List Nat) (s : State) : Quiet s (placeHeld l s) := by
  induction l generalizing s with
  | nil => exact ⟨rfl, rfl, rfl⟩
  | cons i l ih =>
    rw [placeHeld]
    split
    · exact Quiet.trans (by simp [Quiet]) (ih _)
    · exact ⟨rfl, rfl, rfl⟩

theorem completeWrite_quiet (i : StoreItem) (s : State) : Quiet s (completeWrite i s) :=
  Quiet.trans (by simp [Quiet]) (placeHeld_quiet _ _)

theorem storeWork_quiet (s : State) : Quiet s (storeWork s) := Quiet.trans (by simp [Quiet]) (placeHeld_quiet _ _)

/-! ## The owners of the frames -/

theorem putCard_quiet (e : DirEntry) (s : State) : Quiet s (putCard e s).2 := by
  unfold putCard replaceEntry createEntry putEntry
  (repeat' split) <;> simp [Quiet]

theorem dropCard_quiet (card : Word32) (s : State) : Quiet s (dropCard card s).2 := by
  unfold dropCard
  (repeat' split) <;> simp [Quiet]

theorem dirResult_quiet (f : RxFrame) (r : RequestResult × State) : Quiet r.2 (dirResult f r) := by
  unfold dirResult
  split <;> simp [Quiet]

theorem takeDirPut_quiet (f : RxFrame) (s : State) : Quiet s (takeDirPut f s) :=
  .ite ((putCard_quiet _ s).trans (dirResult_quiet f _)) (.refl s)

theorem takeDirDrop_quiet (f : RxFrame) (s : State) : Quiet s (takeDirDrop f s) :=
  .ite ((dropCard_quiet _ s).trans (dirResult_quiet f _)) (.refl s)

theorem takeRecord_quiet (f : RxFrame) (jump : Bool) (r : RevRecord) (s : State) : Quiet s (takeRecord f jump r s) := by
  unfold takeRecord
  (repeat' split) <;> simp [Quiet]

theorem takeRecords_quiet (f : RxFrame) (jump : Bool) (l : List (Option RevRecord)) (s : State) :
    Quiet s (takeRecords f jump l s) := by
  induction l generalizing jump s with
  | nil => exact .refl s
  | cons r l ih =>
    cases r with
    | none => exact .refl s
    | some r => exact (takeRecord_quiet f jump r s).trans (ih false _)

theorem takePush_quiet (f : RxFrame) (s : State) : Quiet s (takePush f s) := by
  have htaken := takeRecords_quiet f (pushJumps f) (pushedRecords f) s
  exact .ite (.ite (htaken.trans (by simp [Quiet])) htaken) (.refl s)

theorem takePull_quiet (f : RxFrame) (s : State) : Quiet s (takePull f s) := by
  simp only [takePull, servedPull]
  (repeat' split) <;> simp [Quiet]

theorem takeGap_quiet (f : RxFrame) (s : State) : Quiet s (takeGap f s) := by
  simp only [takeGap, noteGap]
  (repeat' split) <;> simp [Quiet]

theorem takeRollcall_quiet (f : RxFrame) (s : State) : Quiet s (takeRollcall f s) := by
  simp only [takeRollcall, openWindow]
  split <;> simp [Quiet]

theorem answerClaim_quiet (f : RxFrame) (s : State) : Quiet s (answerClaim f s) := by
  simp only [answerClaim, decideClaim, claimReply, noContainerReply]
  (repeat' split) <;> simp [Quiet]

theorem answerRelease_quiet (f : RxFrame) (s : State) : Quiet s (answerRelease f s) := by
  simp only [answerRelease, claimReply, noContainerReply]
  (repeat' split) <;> simp [Quiet]

theorem takeQuery_quiet (f : RxFrame) (s : State) : Quiet s (takeQuery f s) := by
  simp only [takeQuery, takeSubject, answerSubject, queryReply, emptyPending]
  (repeat' split) <;> simp [Quiet]

theorem requestedSnapshot_quiet (s : State) : Quiet s (requestedSnapshot s) := by
  simp only [requestedSnapshot]
  split <;> simp [Quiet]

theorem takeSnapshot_quiet (f : RxFrame) (s : State) : Quiet s (takeSnapshot f s) :=
  .ite ((requestedSnapshot_quiet s).trans (by simp [Quiet])) (.refl s)

/-- The seven checks, whatever they decide (R107 to R111). -/
theorem receiveFrame_quiet (k : Byte) (f : RxFrame) (s : State) : Quiet s (Verdict.after (receiveFrame k f s)) := by
  simp only [receiveFrame, checkHeader, checkSix]
  repeat' split
  all_goals simp [Quiet, Verdict.after]

end Sys2Proof.TimeProofs
end

section
/-! SUPPORT. The proofs of chapter 7, continued: what a change keeps of the laws on the phase, the neighbour table, the image in force
and TU, for time, the clock and the table (R129, R134 to R139). -/

namespace Sys2Proof.TimeProofs

open Sys2Proof.Machine Sys2Proof.Safety Sys2Proof.FillProofs Sys2Proof.StoreProofs Sys2Proof.BeaconProofs

/-! ## What a change keeps -/

/-- From one state to the other the laws of the phase and the neighbour table hold on, and so do those of the image in force and
of TU. -/
structure Keeps (s t : State) : Prop where
  table : PhaseLaw s ∧ NeighbourLaw s → PhaseLaw t ∧ NeighbourLaw t
  time : ConfigLaw s.cl ∧ TimeLaw s.tu → ConfigLaw t.cl ∧ TimeLaw t.tu

section
variable {s t u : State}

theorem Keeps.refl (s : State) : Keeps s s := ⟨id, id⟩

theorem Keeps.trans (h : Keeps s t) (h' : Keeps t u) : Keeps s u := ⟨h'.table ∘ h.table, h'.time ∘ h.time⟩

/-- A change that is made under a condition. -/
theorem Keeps.when {p : Prop} [Decidable p] (h : p → Keeps s t) : Keeps s (if p then t else s) := by
  split
  · exact h ‹_›
  · exact .refl s

/-- A change of TU alone. -/
theorem keeps_of_tu (hcl : t.cl = s.cl) (htable : t.nu.table = s.nu.table) (htu : TimeLaw s.tu → TimeLaw t.tu) :
    Keeps s t where
  table h := by simpa only [PhaseLaw, NeighbourLaw, hcl, htable] using h
  time h := ⟨hcl ▸ h.1, htu h.2⟩

theorem Quiet.keeps (h : Quiet s t) : Keeps s t := keeps_of_tu h.1 h.2.1 fun htu => h.2.2 ▸ htu

end

theorem advance_keeps (s : State) (d : Nat) : Keeps s (s.advance d) := by
  obtain ⟨htable, hhops⟩ := advance_table_hops s d
  refine keeps_of_tu (advance_frame s d).1 htable fun ⟨hle, hzero⟩ => ⟨hhops.trans_le hle, fun hunset => ?_⟩
  have haging := hzero (hhops.symm.trans hunset)
  unfold State.advance
  split
  · simp [haging, Timer.advance, Timer.zero]
  · exact haging

/-! ## The clock and the hops (R134 to R138) -/

section
variable {s : State}

theorem evaluatePeriod_timeLaw (h : TimeLaw s.tu) : TimeLaw (evaluatePeriod s).tu := by
  rw [evaluatePeriod_eq]
  exact h

/-- A clock that is set leaves the hops below those of an unset one (R135, R136). -/
theorem setClock_timeLaw {hops : Nat} (h : hops < 15) (clock : Word32) (s : State) : TimeLaw (setClock clock hops s).tu :=
  evaluatePeriod_timeLaw ⟨h.le, fun hunset => absurd hunset h.ne⟩

theorem takeTime_keeps (f : RxFrame) (s : State) : Keeps s (takeTime f s) :=
  .when fun _ => keeps_of_tu (by simp) (by simp) fun _ => setClock_timeLaw (by decide) _ s

theorem adoptTime_timeLaw (h : TimeLaw s.tu) (clock : Word32) (hops : Nat) : TimeLaw (adoptTime clock hops s).tu := by
  have hle := h.1
  unfold adoptTime
  split_ifs
  · exact setClock_timeLaw (by omega) _ s
  · exact setClock_timeLaw (by omega) _ s
  · exact h

end

/-! ## The neighbour table (R129) -/

/-- The laws of the table under an own address: the entries that R129 permits, in rising address order. -/
def TableFits (own : Nat) (l : List Neighbour) : Prop :=
  l.length ≤ 16 ∧ l.Pairwise (fun m n => m.address < n.address) ∧
  ∀ n ∈ l, 1 ≤ n.address ∧ n.address ≤ 55 ∧ n.address ≠ own

theorem neighbourLaw_iff (s : State) : NeighbourLaw s ↔
    TableFits s.cl.image.ownAddress s.nu.table ∧ (s.cl.phase ≠ .run → s.nu.table = []) := by
  simp only [NeighbourLaw, TableFits, and_assoc]

theorem mem_putNeighbour {e n : Neighbour} {l : List Neighbour} (h : n ∈ putNeighbour e l) : n = e ∨ n ∈ l := by
  induction l with
  | nil => exact .inl (List.mem_singleton.1 h)
  | cons m l ih =>
    rw [putNeighbour] at h
    split_ifs at h
    · exact List.mem_cons.1 h
    · exact (List.mem_cons.1 h).imp_right (List.mem_cons_of_mem m)
    · rcases List.mem_cons.1 h with rfl | h
      · exact .inr (List.mem_cons_self ..)
      · exact (ih h).imp_right (List.mem_cons_of_mem m)

theorem putNeighbour_rising {e : Neighbour} {l : List Neighbour} (h : l.Pairwise fun m n => m.address < n.address) :
    (putNeighbour e l).Pairwise fun m n => m.address < n.address := by
  induction l with
  | nil => exact List.pairwise_singleton _ _
  | cons m l ih =>
    obtain ⟨hhead, htail⟩ := List.pairwise_cons.1 h
    rw [putNeighbour]
    split_ifs with hbelow hsame
    · refine List.pairwise_cons.2 ⟨fun n hn => ?_, h⟩
      rcases List.mem_cons.1 hn with rfl | hn
      · exact hbelow
      · exact hbelow.trans (hhead n hn)
    · exact List.pairwise_cons.2 ⟨hsame ▸ hhead, htail⟩
    · refine List.pairwise_cons.2 ⟨fun n hn => ?_, ih htail⟩
      rcases mem_putNeighbour hn with rfl | hn
      · omega
      · exact hhead n hn

theorem putNeighbour_length_le (e : Neighbour) (l : List Neighbour) : (putNeighbour e l).length ≤ l.length + 1 := by
  induction l with
  | nil => exact le_rfl
  | cons m l ih =>
    rw [putNeighbour]
    split_ifs
    · exact le_rfl
    · simp
    · simpa using ih

section
variable {own : Nat} {l : List Neighbour}

/-- Entries may go. -/
theorem TableFits.sublist {l' : List Neighbour} (h : TableFits own l) (hsub : l'.Sublist l) : TableFits own l' := by
  obtain ⟨hlen, hrising, hentries⟩ := h
  exact ⟨hsub.length_le.trans hlen, hrising.sublist hsub, fun n hn => hentries n (hsub.subset hn)⟩

/-- Entries may change in all but their addresses. -/
theorem TableFits.map {g : Neighbour → Neighbour} (h : TableFits own l) (hg : ∀ n, (g n).address = n.address) :
    TableFits own (l.map g) := by
  obtain ⟨hlen, hrising, hentries⟩ := h
  exact ⟨by rwa [List.length_map], List.pairwise_map.2 (by simpa only [hg] using hrising),
    List.forall_mem_map.2 (by simpa only [hg] using hentries)⟩

/-- An entry of a permitted address goes into a table with a place for it. -/
theorem TableFits.put {e : Neighbour} (h : TableFits own l) (hroom : l.length < 16)
    (he : 1 ≤ e.address ∧ e.address ≤ 55 ∧ e.address ≠ own) : TableFits own (putNeighbour e l) := by
  obtain ⟨-, hrising, hentries⟩ := h
  refine ⟨(putNeighbour_length_le e l).trans hroom, putNeighbour_rising hrising, fun n hn => ?_⟩
  rcases mem_putNeighbour hn with rfl | hn
  · exact he
  · exact hentries n hn

end

/-- The entry that is evicted is one of the table (R129). -/
theorem entryToEvict_mem {l : List Neighbour} {old : Neighbour} (h : entryToEvict l = some old) : old ∈ l :=
  (List.mem_filter.1 (List.argmax_mem ((foldl_olderEntry _).symm.trans h))).1

/-- A place is made by the eviction of an entry from a full table (R129). -/
theorem makePlace_some {l l' : List Neighbour} (h : makePlace l = some l') (hlen : l.length ≤ 16) :
    l'.Sublist l ∧ l'.length < 16 := by
  unfold makePlace at h
  split at h
  · cases h
    exact ⟨List.Sublist.refl _, ‹_›⟩
  · obtain ⟨old, hold, rfl⟩ := Option.map_eq_some_iff.1 h
    refine ⟨List.filter_sublist, lt_of_lt_of_le ?_ hlen⟩
    exact List.length_filter_lt_length_iff_exists.2 ⟨old, entryToEvict_mem hold, by simp⟩

/-- A beacon of another station leaves a table that R129 permits. -/
theorem tableAfter_fits {own : Nat} {f : RxFrame} {s : State} (h : TableFits own s.nu.table) (hsource : fromStation f)
    (hother : f.src.toNat ≠ own) : TableFits own (tableAfter f s) := by
  cases hheld : s.nu.table.find? fun n => decide (n.address = f.src.toNat) with
  | some n =>
    rw [tableAfter_held h.2.1 hheld]
    refine h.map fun m => ?_
    split
    · exact Eq.symm ‹_›
    · rfl
  | none =>
    rw [tableAfter, hheld]
    cases hplace : makePlace s.nu.table with
    | none => exact h
    | some l =>
      obtain ⟨hsub, hroom⟩ := makePlace_some hplace h.1
      exact (h.sublist hsub).put hroom ⟨hsource.1, hsource.2, hother⟩

section
variable {s t : State}

/-- A change of the table alone, in RUN. -/
theorem keeps_of_table (hrun : s.inRun = true) (hcl : t.cl = s.cl) (htu : t.tu = s.tu)
    (htable : TableFits s.cl.image.ownAddress s.nu.table → TableFits s.cl.image.ownAddress t.nu.table) : Keeps s t where
  table := by
    simp only [PhaseLaw, neighbourLaw_iff, hcl]
    have hphase : s.cl.phase = .run := by simpa using (Bool.and_eq_true_iff.1 hrun).2
    exact fun ⟨hp, hfits, _⟩ => ⟨hp, htable hfits, fun h => absurd hphase h⟩
  time h := by rwa [hcl, htu]

theorem agedTable_keeps (hrun : s.inRun = true) : Keeps s (s.setNu { s.nu with table := agedTable s }) :=
  keeps_of_table hrun rfl rfl fun h => by
    rw [State.setNu_nu, agedTable_eq]
    exact (h.sublist List.filter_sublist).map fun _ => rfl

theorem takeBeacon_keeps {f : RxFrame} (hrun : s.inRun = true) (hsource : fromStation f)
    (hother : f.src.toNat ≠ s.cl.image.ownAddress) : Keeps s (takeBeacon f s) := by
  have htable : Keeps s (takeIntoTable f s) := keeps_of_table hrun (by simp) (by simp) fun h => by
    rw [takeIntoTable_eq]
    exact tableAfter_fits h hsource hother
  have hclock : Keeps (takeIntoTable f s)
      (adoptTime (BitVec.ofNat 32 (fieldAt f.payload 2 4)) (byteAt f.payload 6).toNat (takeIntoTable f s)) :=
    keeps_of_tu (by simp) (by simp) fun h => adoptTime_timeLaw h _ _
  have hmark (v : State) : Quiet v (handMark f.src.toNat (fieldAt f.payload 7 4) v) := by simp [Quiet]
  exact .when fun _ => (htable.trans hclock).trans (hmark _).keeps

end

end Sys2Proof.TimeProofs
end

section
/-! SUPPORT. The proofs of chapter 7, continued: what the starts and the reading of the image keep (R139, R183 to R189). -/

namespace Sys2Proof.TimeProofs

open Sys2Proof.Machine Sys2Proof.Safety Sys2Proof.FillProofs Sys2Proof.StoreProofs Sys2Proof.BeaconProofs

/-! ## Starts -/

section
variable {s t : State} {st : StartStage}

/-- A start from its beginning: STARTING waits for the image, with an empty table (R139, R183). -/
theorem keeps_of_start (hphase : t.cl.phase = .starting) (hstage : t.cl.stage = .image) (htable : t.nu.table = [])
    (htu : TimeLaw s.tu → TimeLaw t.tu) : Keeps s t where
  table _ := by simp [PhaseLaw, NeighbourLaw, hphase, htable]
  time h := ⟨by simp [ConfigLaw, hphase, hstage], htu h.2⟩

theorem timeLaw_cold : TimeLaw Tu.cold := ⟨le_rfl, fun _ => rfl⟩

theorem resetBlocks_start (s : State) :
    (resetBlocks s).cl.phase = .starting ∧ (resetBlocks s).cl.stage = .image ∧ (resetBlocks s).nu.table = [] ∧
    (TimeLaw s.tu → TimeLaw (resetBlocks s).tu) := by
  unfold resetBlocks
  split
  · exact ⟨rfl, rfl, rfl, fun _ => timeLaw_cold⟩
  · exact ⟨rfl, rfl, rfl, fun h => ⟨h.1, fun _ => rfl⟩⟩

theorem afterDeparture_keeps (f : TxFrame) (s : State) : Keeps s (afterDeparture f s) := by
  obtain ⟨-, -, htable, htu⟩ := resetBlocks_start s
  exact .when fun _ => keeps_of_start rfl rfl htable htu

theorem losePower_keeps (s : State) : Keeps s (losePower s) := keeps_of_start rfl rfl rfl fun _ => timeLaw_cold

theorem startPowered_keeps (s : State) : Keeps s (startPowered s) := by
  rw [startPowered_eq]
  exact keeps_of_start rfl rfl rfl fun _ => timeLaw_cold

/-- What holds STARTING at its beginning keeps the table empty (R139, R183). -/
theorem keeps_of_held (hheld : s.cl.resetLow = true ∨ s.cl.powered = false)
    (hstart : t.cl.phase = .starting ∧ t.cl.stage = .image ∨
      t.cl.phase = s.cl.phase ∧ t.cl.stage = s.cl.stage ∧ t.cl.image = s.cl.image)
    (htable : t.nu.table = s.nu.table) (htu : t.tu = s.tu) : Keeps s t where
  table h := by
    obtain ⟨hphase, -, -, -, hempty⟩ := h
    have hnone : t.nu.table = [] := htable.trans (hempty (by rw [hphase hheld]; decide))
    have hstarting : t.cl.phase = .starting := hstart.elim And.left fun he => he.1.trans (hphase hheld)
    simp [PhaseLaw, NeighbourLaw, hnone, hstarting]
  time h := by
    obtain ⟨hconfig, htime⟩ := h
    refine ⟨?_, htu ▸ htime⟩
    rcases hstart with ⟨hphase, hstage⟩ | ⟨hphase, hstage, himage⟩
    · simp [ConfigLaw, hphase, hstage]
    · simpa only [ConfigLaw, hphase, hstage, himage] using hconfig

theorem driveResetLow_keeps (s : State) : Keeps s (driveResetLow s) := by
  obtain ⟨hphase, hstage, htable, htu⟩ := resetBlocks_start s
  simp only [driveResetLow]
  split
  · exact keeps_of_start hphase hstage htable htu
  · exact keeps_of_held (.inr (Bool.eq_false_iff.2 ‹_›)) (.inr ⟨rfl, rfl, rfl⟩) rfl rfl

theorem releaseReset_keeps (hlow : s.cl.resetLow = true) : Keeps s (releaseReset s) := by
  simp only [releaseReset]
  split
  · exact keeps_of_held (.inl hlow) (.inl ⟨rfl, rfl⟩) rfl rfl
  · exact keeps_of_held (.inl hlow) (.inr ⟨rfl, rfl, rfl⟩) rfl rfl

theorem atStage_iff (s : State) : s.atStage st = true ↔
    s.cl.powered = true ∧ s.cl.resetLow = false ∧ s.cl.phase = .starting ∧ s.cl.stage = st := by
  simp [State.atStage, and_assoc]

/-- The work of STARTING goes on with an empty table (R139). -/
theorem keeps_of_stage (hs : s.atStage st = true) (hlevels : t.cl.powered = s.cl.powered ∧ t.cl.resetLow = s.cl.resetLow)
    (htable : t.nu.table = s.nu.table) (hconfig : ConfigLaw s.cl → ConfigLaw t.cl) (htu : TimeLaw s.tu → TimeLaw t.tu) :
    Keeps s t where
  table h := by
    obtain ⟨-, -, -, -, hempty⟩ := h
    obtain ⟨hpowered, hlow, hphase, -⟩ := (atStage_iff s).1 hs
    have hnone : t.nu.table = [] := htable.trans (hempty (by rw [hphase]; decide))
    simp [PhaseLaw, NeighbourLaw, hnone, hlevels, hpowered, hlow]
  time h := ⟨hconfig h.1, htu h.2⟩

/-! ## The image (R185) -/

theorem container_clamped_range (x : ContainerConfig) : ContainerInRange x.clamped := by
  simp only [ContainerInRange, ContainerConfig.clamped, clampTo]
  omega

theorem fieldAt_one_le (l : List Byte) (i : Nat) : fieldAt l i 1 ≤ 255 := by
  unfold fieldAt fromBe
  cases l.drop i with
  | nil => simp
  | cons b _ =>
    have hb := b.isLt
    simp
    omega

/-- An image in force has every field in its range (R185). -/
theorem configLaw_imageInForce {x : Cl} {b : List Byte} (h : x.image = imageInForce b) : ConfigLaw x := by
  intro _
  have hcaps (k : Fin 4) : (imageInForce b).caps.get k ≤ 255 := by
    simp [imageInForce, ConfigImage.clamped, storedImage, fieldAt_one_le]
  have hrank : ∀ p ∈ (imageInForce b).prefs, p.address = 0 ∨ p.rank ≤ 7 := by
    rw [imageInForce_prefs]
    refine List.forall_mem_map.2 fun i _ => ?_
    rw [Preference.clamped]
    split
    · exact .inl ‹_›
    · simp only [clampTo]
      omega
  have hcontainer (c : Col) (hc : c.val < (imageInForce b).count) : ContainerInRange ((imageInForce b).containers.get c) := by
    rw [imageInForce_container b c hc]
    exact container_clamped_range _
  rw [h]
  refine ⟨?_, ?_, ?_, ?_, ?_, ?_, ?_, ?_, ?_, ?_, ?_, ?_, ?_, ?_, ?_, ?_, ?_, ?_, hcaps, by simp [imageInForce_prefs], hrank,
    hcontainer⟩
  all_goals
    simp only [imageInForce, ConfigImage.clamped, clampTo]
    omega

/-! ## The work of STARTING (R184 to R189) -/

theorem takeImage_keeps (hs : s.atStage .image = true) (b : List Byte) : Keeps s (takeImage b s) :=
  keeps_of_stage hs ⟨rfl, rfl⟩ rfl (fun _ => configLaw_imageInForce rfl) id

theorem enterSafe_keeps (hs : s.atStage .image = true) : Keeps s (enterSafe s) :=
  keeps_of_stage hs ⟨rfl, rfl⟩ rfl (fun _ => by simp [ConfigLaw, enterSafe]) id

theorem storeWork_keeps (hs : s.atStage .storeWork = true) :
    Keeps s (storeWork (s.setCl { s.cl with stage := .derivation })) := by
  obtain ⟨-, -, hphase, hstage⟩ := (atStage_iff s).1 hs
  have hderivation : Keeps s (s.setCl { s.cl with stage := .derivation }) :=
    keeps_of_stage hs ⟨rfl, rfl⟩ rfl (fun h _ => h (.inr ⟨hphase, by rw [hstage]; decide⟩)) id
  exact hderivation.trans (storeWork_quiet _).keeps

/-- At entry to RUN the hop-aging timer starts with a set clock alone (R137, R189). -/
theorem entered_keeps (hs : s.atStage .derivation = true) : Keeps s (entered s) := by
  obtain ⟨-, -, hphase, hstage⟩ := (atStage_iff s).1 hs
  have hcl : (entered s).cl = { s.cl with phase := .run, startKind := .warm } := by
    rw [entered_eq_update]
    rfl
  have htu : (entered s).tu = { s.tu with aging := if s.tu.hops = 15 then .zero else .start } := entered_tu s
  refine keeps_of_stage hs ?_ (by rw [entered_nu]; rfl) ?_ ?_
  · rw [hcl]
    exact ⟨rfl, rfl⟩
  · rw [hcl]
    exact fun h _ => h (.inr ⟨hphase, by rw [hstage]; decide⟩)
  · rw [htu]
    exact fun h => ⟨h.1, fun hunset => if_pos hunset⟩

end

end Sys2Proof.TimeProofs
end

section
/-! SUPPORT. The proofs of chapter 7, continued: what frames, the line and so every command keep, and the two statements on every
step. -/

namespace Sys2Proof.TimeProofs

open Sys2Proof.Machine Sys2Proof.Safety Sys2Proof.FillProofs Sys2Proof.StoreProofs Sys2Proof.BeaconProofs

/-! ## Frames -/

theorem takeRestart_keeps (f : RxFrame) (s : State) : Keeps s (takeRestart f s) := by
  have hpromised (g : TxFrame) : Keeps s (offer g { s with restartPromised := true }) := Quiet.keeps (by simp [Quiet])
  simp only [takeRestart, promiseRestart]
  split_ifs
  · exact Quiet.keeps (by simp [Quiet])
  · split
    · exact (hpromised _).trans (afterDeparture_keeps _ _)
    all_goals exact hpromised _
  · exact .refl s

/-- A frame that is dispatched has come in RUN, from another station, by a kind that its source may send (R107 to R110). -/
theorem receiveFrame_dispatched {b : Byte} {f : RxFrame} {s t : State} (h : receiveFrame b f s = .dispatched t) :
    s.inRun = true ∧ (s.cfg.ownAddress ≠ 0 → f.src.toNat ≠ s.cfg.ownAddress) ∧
    ∃ k, kindOf b = some k ∧ k.permits (sourceClass f.src) = true := by
  have hcfg : (hearFrame f (endReception s)).cfg = s.cfg := by simp [State.cfg]
  unfold receiveFrame at h
  split_ifs at h with hrun
  rw [checkHeader, hcfg] at h
  split at h
  · cases h
  · rename_i hown
    refine ⟨by simpa using hrun, fun h0 he => hown ⟨h0, he⟩, ?_⟩
    split at h
    · cases h
    · split at h
      · cases h
      · rename_i k hk
        refine ⟨k, hk, ?_⟩
        simp only [checkSix] at h
        split_ifs at h with _ _ hpermits
        simpa using hpermits

theorem fromStation_of_class {f : RxFrame} (h : sourceClass f.src = .station) : fromStation f := by
  unfold sourceClass at h
  split_ifs at h
  assumption

/-- The owner of a dispatched frame keeps the laws. -/
theorem ownerOf_keeps {b : Byte} {k : Kind} {f : RxFrame} {s t : State} (hk : kindOf b = some k)
    (h : receiveFrame b f s = .dispatched t) : Keeps t (ownerOf k f t) := by
  cases k with
  | beacon =>
    have hcl : t.cl = s.cl := by
      have hquiet := receiveFrame_quiet b f s
      rw [h] at hquiet
      exact hquiet.1
    obtain ⟨hrun, hother, k, hk', hpermits⟩ := receiveFrame_dispatched h
    obtain rfl : .beacon = k := Option.some.inj (hk.symm.trans hk')
    have hsource : fromStation f := fromStation_of_class (of_decide_eq_true hpermits)
    have hown : f.src.toNat ≠ s.cfg.ownAddress := fun he => hother (by have := hsource.1; omega) he
    exact takeBeacon_keeps (by rwa [State.inRun, hcl]) hsource (by rwa [hcl])
  | time => exact takeTime_keeps f t
  | restart => exact takeRestart_keeps f t
  | revokePull => exact (takePull_quiet f t).keeps
  | revokePush => exact (takePush_quiet f t).keeps
  | revokeGap => exact (takeGap_quiet f t).keeps
  | dirPut => exact (takeDirPut_quiet f t).keeps
  | dirDrop => exact (takeDirDrop_quiet f t).keeps
  | rollcall => exact (takeRollcall_quiet f t).keeps
  | claim => exact (answerClaim_quiet f t).keeps
  | release => exact (answerRelease_quiet f t).keeps
  | query => exact (takeQuery_quiet f t).keeps
  | snapshot => exact (takeSnapshot_quiet f t).keeps
  | alarm | dirResult | claimReply | queryReply | reply => exact .refl t

theorem withFrame_keeps (k : Kind) (f : RxFrame) (s : State) : Keeps s (withFrame k f (ownerOf k) s) := by
  have hchecked := receiveFrame_quiet k.code f s
  rcases withFrame_cases k f (ownerOf k) s with ⟨t, hv, heq⟩ | ⟨t, hv, heq⟩ <;> rw [heq] <;> rw [hv] at hchecked
  · exact hchecked.keeps
  · exact hchecked.keeps.trans (ownerOf_keeps (kindOf_code k) hv)

theorem receiveRaw_keeps (b : Byte) (f : RxFrame) (s : State) : Keeps s (receiveRaw b f s) := by
  have hchecked := receiveFrame_quiet b f s
  unfold receiveRaw
  split <;> rename_i hv <;> rw [hv] at hchecked
  · exact hchecked.keeps
  · split
    · exact hchecked.keeps.trans (ownerOf_keeps ‹_› hv)
    · exact hchecked.keeps

/-! ## The line -/

theorem collide_keeps (f : TxFrame) (s : State) : Keeps s (collide f s) := by
  simp only [collide]
  split
  · exact Quiet.keeps (by simp [Quiet])
  all_goals exact Keeps.trans (Quiet.keeps (by simp [Quiet])) (afterDeparture_keeps _ _)

theorem sent_keeps (f : TxFrame) (s : State) : Keeps s (sent f s) :=
  Keeps.trans (Quiet.keeps (by simp [Quiet])) (afterDeparture_keeps _ _)

theorem deadlineExpires_keeps (f : TxFrame) (s : State) : Keeps s (deadlineExpires f s) := by
  unfold deadlineExpires
  split
  · exact Quiet.keeps (by simp [Quiet])
  · exact Keeps.trans (Quiet.keeps (by simp [Quiet])) (afterDeparture_keeps _ _)

/-! ## One command -/

/-- A command answers with the next state, and keeps the laws. -/
def Answers (s : State) (o : Host.Outcome State Fault Refusal) : Prop := ∃ t, o = .next t ∧ Keeps s t

section
variable {s t : State}

/-- What a command does once its time has passed. -/
theorem answers (d : Nat) (h : Keeps (s.advance d) t) : Answers s (.next t) := ⟨t, rfl, (advance_keeps s d).trans h⟩

theorem answers_quiet (d : Nat) (h : Quiet (s.advance d) t) : Answers s (.next t) := answers d h.keeps

/-- A command that is taken under a condition. -/
theorem answers_when {p : Prop} [Decidable p] (d : Nat) (h : p → Keeps (s.advance d) t) :
    Answers s (.next (if p then t else s.advance d)) := answers d (.when h)

theorem answers_whenQuiet {p : Prop} [Decidable p] (d : Nat) (h : Quiet (s.advance d) t) :
    Answers s (.next (if p then t else s.advance d)) := answers_when d fun _ => h.keeps

end

theorem execPowerOn_answers (d : Nat) (s : State) : Answers s (execPowerOn d s) :=
  answers d (Keeps.trans (.when fun _ => losePower_keeps _) (startPowered_keeps _))

theorem execResetNLow_answers (d : Nat) (s : State) : Answers s (execResetNLow d s) := by
  refine answers d ?_
  split
  · exact .refl _
  · exact driveResetLow_keeps _

theorem execConfigurationImageRead_answers (d : Nat) (l : List Byte) (s : State) :
    Answers s (execConfigurationImageRead d l s) := by
  refine answers_when d fun h => ?_
  have hs := (Bool.and_eq_true_iff.1 h).1
  split
  · exact takeImage_keeps hs l
  · exact enterSafe_keeps hs

theorem execGrantRequest_answers (d : Nat) (c : Col) (s : State) : Answers s (execGrantRequest d c s) := by
  refine answers_whenQuiet d ?_
  (repeat' split) <;> simp [Quiet]

/-- The measurements end or move on (R28, R29). -/
theorem execMeasurement_answers (d : Nat) (above : Bool) (s : State) :
    Answers s (execBurstEnd d s) ∧ Answers s (execBlankEnd d above s) ∧ Answers s (execEchoRise d s) ∧
    Answers s (execListenEnd d s) := by
  refine ⟨answers_quiet d ?_, answers_quiet d ?_, answers_quiet d ?_, answers_quiet d ?_⟩
  all_goals (repeat' split) <;> simp [Quiet]

theorem execTemperatureRead_answers (d : Nat) (v : Option Int) (s : State) : Answers s (execTemperatureRead d v s) := by
  refine answers_quiet d ?_
  (repeat' split) <;> simp [Quiet]

theorem execReaderMessageDiscarded_answers (d : Nat) (c : Col) (l : List Byte) (s : State) :
    Answers s (execReaderMessageDiscarded d c l s) := by
  refine answers_quiet d ?_
  split
  · exact .refl _
  · exact cardReadTaken_quiet c _ _ _ _
  · exact repeatTaken_quiet c _

theorem execStoreWriteComplete_answers (d : Nat) (s : State) : Answers s (execStoreWriteComplete d s) := by
  refine answers_whenQuiet d ?_
  split
  · exact completeWrite_quiet _ _
  · exact .refl _

theorem execFrameNotDispatched_answers (d : Nat) (f : RawFrame) (s : State) : Answers s (execFrameNotDispatched d f s) := by
  refine answers_when d fun _ => ?_
  split
  · exact receiveRaw_keeps _ _ _
  · exact Quiet.keeps (by simp [Quiet])

/-- The frame in access waits, is sent, or meets another (R117 to R119). -/
theorem execAccess_answers (d : Nat) (s : State) :
    Answers s (execClassGapReached d s) ∧ Answers s (execBackoffSlotEnd d s) ∧ Answers s (execCollision d s) ∧
    Answers s (execTransmissionComplete d s) := by
  refine ⟨answers_quiet d ?_, answers_quiet d ?_, answers d ?_, answers d ?_⟩
  · (repeat' split) <;> simp [Quiet]
  · (repeat' split) <;> simp [Quiet]
  · split
    · exact collide_keeps _ _
    · exact .refl _
  · split
    · exact sent_keeps _ _
    · exact .refl _

theorem execReplyDeadlineExpiry_answers (d n : Nat) (s : State) : Answers s (execReplyDeadlineExpiry d n s) := by
  refine answers d ?_
  split
  · exact .when fun _ => deadlineExpires_keeps _ _
  · exact .refl _

theorem execRollcallSlotTime_answers (d : Nat) (s : State) : Answers s (execRollcallSlotTime d s) := by
  refine answers_quiet d ?_
  (repeat' split) <;> simp [Quiet]

theorem holdoffExpires_quiet (s : State) : Quiet s (holdoffExpires s) := by
  simp only [holdoffExpires]
  split <;> simp [Quiet]

theorem execClockSecond_answers (d : Nat) (s : State) : Answers s (execClockSecond d s) := by
  refine answers_when d fun _ => keeps_of_tu ?_ ?_ fun h => ?_
  · split <;> simp [tickClock]
  · split <;> simp [tickClock]
  · have hticked : TimeLaw (tickClock (s.advance d)).tu := h
    split
    · exact evaluatePeriod_timeLaw hticked
    · exact hticked

theorem execHopAgingExpiry_answers (d : Nat) (s : State) : Answers s (execHopAgingExpiry d s) := by
  refine answers_when d fun _ => keeps_of_tu rfl rfl fun _ => ?_
  simp only [TimeLaw, State.setTu_tu]
  omega

/-- Every command keeps the laws. -/
theorem exec_answers (i : Instr) (s : State) : Answers s (exec i s) := by
  cases i with
  | powerOn d => exact execPowerOn_answers d s
  | lossOfPower d => exact answers_when d fun _ => losePower_keeps _
  | resetNLow d => exact execResetNLow_answers d s
  | resetNHigh d => exact answers_when d fun hlow => releaseReset_keeps hlow
  | configurationImageRead d l => exact execConfigurationImageRead_answers d l s
  | startingStoreWork d => exact answers_when d fun h => storeWork_keeps (Bool.and_eq_true_iff.1 h).1
  | containerStateDerivation d => exact answers_when d fun hs => entered_keeps hs
  | inputLevelSettled d | drumOpen d | drumClosed d | lockSenseEngaged d | lockSenseReleased d | containerAbsent d
  | containerPresent d => exact answers_quiet d (by simp [Quiet])
  | confirmationTimerExpiry d c => exact answers_whenQuiet d (confirmationExpires_quiet c _)
  | cardRead d c card issue bad => exact answers_quiet d (cardReadTaken_quiet c card issue bad _)
  | repeatIndication d c => exact answers_quiet d (repeatTaken_quiet c _)
  | readerMessageDiscarded d c l => exact execReaderMessageDiscarded_answers d c l s
  | grantRequest d c => exact execGrantRequest_answers d c s
  | burstEnd d => exact (execMeasurement_answers d true s).1
  | blankEnd d above => exact (execMeasurement_answers d above s).2.1
  | echoRise d => exact (execMeasurement_answers d true s).2.2.1
  | listenEnd d => exact (execMeasurement_answers d true s).2.2.2
  | temperatureRead d v => exact execTemperatureRead_answers d v s
  | storeWriteComplete d => exact execStoreWriteComplete_answers d s
  | dirPut d f => exact answers d (withFrame_keeps .dirPut f _)
  | dirDrop d f => exact answers d (withFrame_keeps .dirDrop f _)
  | revokePush d f => exact answers d (withFrame_keeps .revokePush f _)
  | revokePull d f => exact answers d (withFrame_keeps .revokePull f _)
  | revokeGap d f => exact answers d (withFrame_keeps .revokeGap f _)
  | timeFrame d f => exact answers d (withFrame_keeps .time f _)
  | beacon d f => exact answers d (withFrame_keeps .beacon f _)
  | rollcall d f => exact answers d (withFrame_keeps .rollcall f _)
  | claim d f => exact answers d (withFrame_keeps .claim f _)
  | release d f => exact answers d (withFrame_keeps .release f _)
  | queryAlarms d f | queryCounters d f | queryContainers d f | queryNeighbours d f | queryStatus d f | queryDirGet d f
  | queryLog d f | queryBadSubject d f => exact answers d (withFrame_keeps .query _ _)
  | snapshot d f => exact answers d (withFrame_keeps .snapshot f _)
  | restart d f => exact answers d (withFrame_keeps .restart f _)
  | frameNotDispatched d f => exact execFrameNotDispatched_answers d f s
  | classGapReached d => exact (execAccess_answers d s).1
  | backoffSlotEnd d => exact (execAccess_answers d s).2.1
  | collision d => exact (execAccess_answers d s).2.2.1
  | transmissionComplete d => exact (execAccess_answers d s).2.2.2
  | replyDeadlineExpiry d n => exact execReplyDeadlineExpiry_answers d n s
  | rollcallSlotTime d => exact execRollcallSlotTime_answers d s
  | neighbourAgeTick d => exact answers_when d fun hrun => agedTable_keeps hrun
  | beaconHoldoffExpiry d => exact answers_whenQuiet d (holdoffExpires_quiet _)
  | clockSecond d => exact execClockSecond_answers d s
  | hopAgingExpiry d => exact execHopAgingExpiry_answers d s
  | reportTimerExpiry d => exact answers_whenQuiet d (requestedSnapshot_quiet _)
  | drumHeldExpiry d | liftLimitExpiry d | holdTimerExpiry d | windowTimerExpiry d | euPeriodicTimerExpiry d
  | settleTimerExpiry d | returnTimerExpiry d | indicationSendComplete d | pullHoldoffExpiry d | pullOutstandingTimeout d
  | lineActivity d | silenceTimerExpiry d | rollcallWindowClose d | beaconPeriodicTimerExpiry d =>
    exact answers_whenQuiet d (by simp [Quiet, periodicExpires])

/-- Every step keeps the laws. -/
theorem step_keeps_laws {s t : State} (h : step s = .next t) : Keeps s t := by
  unfold step at h
  split at h
  · cases h
    exact .refl s
  · rename_i i rest _
    obtain ⟨u, hu, hkeeps⟩ := exec_answers i { s with pending := rest }
    rw [hu] at h
    cases h
    have hrest : Keeps s { s with pending := rest } := Quiet.keeps ⟨rfl, rfl, rfl⟩
    exact hrest.trans hkeeps

/-- Settles O12: no change of the phase or the table breaks the laws. -/
theorem stepKeepsNeighbourTable : Obligations.StepKeepsNeighbourTable := fun _ _ hs hstep => (step_keeps_laws hstep).table hs

/-- Settles O14: no change of the image in force or of TU breaks the laws. -/
theorem stepKeepsConfigurationAndTime : Obligations.StepKeepsConfigurationAndTime :=
  fun _ _ hs hstep => (step_keeps_laws hstep).time hs

end Sys2Proof.TimeProofs
end

section
/-! SUPPORT. The proofs of chapters 9 and 10, continued: the queries of the directory and the log, and of no subject (R161, R162,
R173, R179). -/

namespace Sys2Proof.QueryProofs

open Sys2Proof.Machine Sys2Proof.Safety Sys2Proof.StoreProofs Sys2Proof.PullProofs

/-! ## Queries that reach their subject (R173) -/

theorem subjectOf_code (k : Subject) : subjectOf k.code = some k := by cases k <;> rfl

theorem subjectOf_unknown {b : Byte} (h : b = 0 ∨ 7 < b.toNat) : subjectOf b = none := by
  refine List.find?_eq_none.2 fun k _ hcode => ?_
  obtain rfl : k.code = b := of_decide_eq_true hcode
  cases k <;> exact absurd h (by decide)

/-- A QUERY of any payload that a gateway directs to the station reaches QR, once time has passed. -/
theorem query_reaches {f : RxFrame} {s : State} (h : hears s f 0) (hsource : fromGateway f) (hdest : isDirected s f) (d : Nat) :
    withFrame .query f takeQuery (s.advance d) = takeQuery f (heard f (s.advance d)) :=
  withFrame_directed h hdest (by rw [sourceClass_gateway hsource]; rfl) rfl d takeQuery

/-- A QUERY of a known subject is taken by its subject with the arguments that the frame carries. -/
theorem withQuery_reaches {f : RxFrame} {s : State} (h : hears s f 1) (hsource : fromGateway f) (hdest : isDirected s f)
    (k : Subject) (d : Nat) :
    withQuery k f (s.advance d) =
      takeSubject k { f with payload := k.code :: f.payload } f.payload (heard f (s.advance d)) := by
  refine (query_reaches (f := { f with payload := k.code :: f.payload }) h hsource hdest d).trans ?_
  simp only [takeQuery, subjectOf_code]
  rfl

/-- Arguments of another length than the subject's are answered BAD_REQUEST (R173). -/
theorem takeSubject_misfit {k : Subject} {args : List Byte} (h : args.length ≠ k.argBytes) (f : RxFrame) (s : State) :
    takeSubject k f args s = reply .queryReply f [k.code, 6] s := if_neg h

theorem takeSubject_fit {k : Subject} {args : List Byte} (h : args.length = k.argBytes) (f : RxFrame) (s : State) :
    takeSubject k f args s = answerSubject f k args s := if_pos h

/-! ## The answer to a read of a slot (R62) -/

/-- The last item of the queue for a slot. -/
def lastQueued (sl : Slot) (s : State) : Option StoreItem := (s.sc.queue.filter fun q => decide (q.slot = sl)).getLast?

/-- The last staged record of a slot. -/
def lastStaged (sl : Slot) (s : State) : Option LogRecord :=
  (s.sc.staging.filter fun r => decide (logSlot r.index = sl)).getLast?

/-- The item that is being written, when it is the slot's. -/
def writtenNow (sl : Slot) (s : State) : Option StoreItem := s.sc.inFlight.filter fun q => decide (q.slot = sl)

section
variable {s : State} {sl : Slot}

theorem slotAnswer_of_queued {q : StoreItem} (hq : lastQueued sl s = some q) : slotAnswer sl s = q.bytes := by
  simp only [lastQueued] at hq
  simp [slotAnswer, List.getLast?_append, hq]

theorem slotAnswer_of_staged {r : LogRecord} (hq : lastQueued sl s = none) (hr : lastStaged sl s = some r) :
    slotAnswer sl s = r.image := by
  simp only [lastQueued] at hq
  simp only [lastStaged] at hr
  simp [slotAnswer, List.getLast?_append, hq, hr]

/-- With nothing pending for the slot, the image being written answers, else the store. -/
theorem slotAnswer_of_not_pending (hq : lastQueued sl s = none) (hr : lastStaged sl s = none) :
    slotAnswer sl s = ((writtenNow sl s).map StoreItem.bytes).getD (readSlot s.sc.store sl) := by
  simp only [lastQueued] at hq
  simp only [lastStaged] at hr
  simp only [slotAnswer, List.getLast?_append, List.getLast?_map, hq, hr, writtenNow]
  cases s.sc.inFlight with
  | none => rfl
  | some q => by_cases hslot : q.slot = sl <;> simp [hslot, Option.filter]

theorem slotAnswer_of_written {q : StoreItem} (hq : lastQueued sl s = none) (hr : lastStaged sl s = none)
    (hw : writtenNow sl s = some q) : slotAnswer sl s = q.bytes := by
  rw [slotAnswer_of_not_pending hq hr, hw]
  rfl

theorem slotAnswer_of_stored (hq : lastQueued sl s = none) (hr : lastStaged sl s = none) (hw : writtenNow sl s = none) :
    slotAnswer sl s = readSlot s.sc.store sl := by
  rw [slotAnswer_of_not_pending hq hr, hw]
  rfl

end

theorem lastStaged_log (i : Nat) (s : State) :
    lastStaged (logSlot i) s = (s.sc.staging.filter fun r => decide (r.index % 1024 = i % 1024)).getLast? := by
  simp [lastStaged, logSlot]

/-! ## The content of the replies (R161, R162, R179) -/

theorem dirGetAnswer_found {card : Word32} {s : State} {slot : Nat} {w : DirWay} (h : lookupCard card s = some (slot, w)) :
    dirGetAnswer card s = (.done, entryContent slot w) := by rw [dirGetAnswer, h]

theorem dirGetAnswer_absent {card : Word32} {s : State} (h : lookupCard card s = none) :
    dirGetAnswer card s = (.notFound, be32 card.toNat) := by rw [dirGetAnswer, h]

/-- The number of records that a log read returns (R161). -/
def servedCount (d : Dl) (from' maximum : Nat) : Nat := min (max 1 (min 4 maximum)) (d.next - max d.oldest from')

/-- The records that a log read returns stand from the first index that is held (R161). -/
theorem servedIndices_eq (d : Dl) (from' maximum : Nat) :
    servedIndices d from' maximum = (List.range (servedCount d from' maximum)).map (max d.oldest from' + ·) := by
  have hfirst : (if from' < d.oldest then d.oldest else from') = max d.oldest from' := by split_ifs <;> omega
  simp only [servedIndices, hfirst]
  rfl

/-- What remains after a log read is counted from the index behind the last record served (R161). -/
theorem remainingAfter_range (d : Dl) (first n : Nat) :
    remainingAfter d ((List.range n).map (first + ·)) = if n = 0 then 0 else d.next - (first + n) := by
  cases n with
  | zero => rfl
  | succ n => simp [remainingAfter, List.range_succ, Nat.add_assoc]

theorem logContent_eq (s : State) (from' maximum : Nat) :
    logContent s from' maximum =
      be32 s.dl.oldest ++ be32 s.dl.next ++
        be32 (if servedCount s.dl from' maximum = 0 then 0
          else s.dl.next - (max s.dl.oldest from' + servedCount s.dl from' maximum)) ++
        [if from' < s.dl.oldest then 1 else 0, BitVec.ofNat 8 (servedCount s.dl from' maximum)] ++
        ((List.range (servedCount s.dl from' maximum)).map (max s.dl.oldest from' + ·)).flatMap (servedRecord s) := by
  simp [logContent, servedIndices_eq, remainingAfter_range, flagByte]

/-! ## The statement: O53 -/

/-- Settles O53: each query reaches its subject, and the answer is read from the directory, or from the slots of the log. -/
theorem queriesReadTheDirectoryAndLog : Obligations.QueriesReadTheDirectoryAndLog := by
  refine ⟨?_, ?_⟩
  · intro s d f hf hsource hdest v n8 card from' maximum first served remaining slotImage record
    have hexec (k : Subject) : withQuery k f (s.advance d) = takeSubject k { f with payload := k.code :: f.payload } f.payload v :=
      withQuery_reaches hf hsource hdest k d
    have himage (i : Nat) : slotImage i = slotAnswer (logSlot i) v := by
      simp only [slotImage, ← lastStaged_log]
      split
      next hq => exact (slotAnswer_of_queued hq).symm
      next hq hr => exact (slotAnswer_of_staged hq hr).symm
      next hq hr hw => exact (slotAnswer_of_written hq hr hw).symm
      next hq hr hw => exact (slotAnswer_of_stored hq hr hw).symm
    have hrecord : record = servedRecord v := by
      funext i
      simp only [record, himage]
      rfl
    refine ⟨fun hlen => ?_, fun hlen => ?_, fun hlen => ?_, fun hlen => ?_⟩
    · refine congrArg _ ((hexec .dirGet).trans ((takeSubject_fit hlen _ v).trans ?_))
      rcases hfound : lookupCard card v with _ | ⟨slot, w⟩
      · simp only [answerSubject, card, dirGetAnswer_absent hfound]
        rfl
      · simp only [answerSubject, card, dirGetAnswer_found hfound]
        rfl
    · refine congrArg _ ((hexec .log).trans ((takeSubject_fit hlen _ v).trans ?_))
      simp only [answerSubject, logContent_eq, hrecord]
      rfl
    · exact congrArg _ ((hexec .dirGet).trans (takeSubject_misfit hlen _ v))
    · exact congrArg _ ((hexec .log).trans (takeSubject_misfit hlen _ v))
  · intro s d f hf hsource hdest v
    have hexec : exec (.queryBadSubject d f) s = .next (takeQuery f v) := congrArg _ (query_reaches hf hsource hdest d)
    refine ⟨fun hempty => ?_, fun b hhead hunknown => ?_⟩
    · rw [hexec, takeQuery, hempty]
      rfl
    · obtain ⟨args, hpayload⟩ : ∃ args, f.payload = b :: args := List.head?_eq_some_iff.1 hhead
      simp only [hexec, takeQuery, hpayload, subjectOf_unknown hunknown]
      rfl

end Sys2Proof.QueryProofs
end

section
/-! SUPPORT. The proofs of chapter 10: what reports, counts and offers keep of the laws on ACU's alarms and counters (R165, R166,
R169). -/

namespace Sys2Proof.AlarmProofs

open Sys2Proof.Machine Sys2Proof.Safety Sys2Proof.FillProofs Sys2Proof.StoreProofs

/-! ## What reports are made of -/

/-- A property of states is kept by what edges and offers are made of: a frame that is counted in TX_ABANDONED, a flag that is set, and
a change of the line (R116, R166, R167). -/
structure ReportClosed (P : State → Prop) : Prop where
  count : ∀ {s}, P s → P (addCount .txAbandoned 1 s)
  set : ∀ {s} (k : Cond) (c : Col), P s → P (setPending k c s)
  line : ∀ {s} (x : Lc), P s → P (s.setLc x)

section
variable {P : State → Prop} {s : State}

theorem ReportClosed.placeFrame (hP : ReportClosed P) (f : TxFrame) (h : P s) : P (placeFrame f s) := by
  rcases placeFrame_cases f s with ⟨-, he⟩ | ⟨-, he⟩ | ⟨old, -, he⟩ | ⟨-, he⟩ <;> rw [he]
  · exact h
  · exact hP.line _ h
  · exact hP.count (hP.line _ h)
  · exact hP.count h

theorem ReportClosed.offerAlarm (hP : ReportClosed P) (h : P s) : P (offerAlarm s) := by
  unfold Machine.offerAlarm
  split
  · exact h
  · exact hP.placeFrame _ h

theorem ReportClosed.announce (hP : ReportClosed P) (h : P s) : P (announce s) := by
  have hoffered := hP.offerAlarm h
  simp only [Machine.announce, counterFullByAlarm]
  split_ifs
  · exact hP.offerAlarm (hP.set _ _ hoffered)
  all_goals exact hoffered

theorem ReportClosed.takeEdge (hP : ReportClosed P) (k : Cond) (c : Col) (rise : Bool) (h : P s) : P (takeEdge k c rise s) := by
  rcases takeEdge_cases k c rise s with ⟨-, he⟩ | ⟨-, he⟩ <;> rw [he]
  · exact h
  · exact hP.announce (hP.set k c h)

theorem ReportClosed.occur (hP : ReportClosed P) (k : Cond) (c : Col) (h : P s) : P (occur k c s) := by
  unfold Machine.occur
  split
  · exact hP.takeEdge k c true h
  · exact h

theorem ReportClosed.offer (hP : ReportClosed P) (f : TxFrame) (h : P s) : P (offer f s) := by
  simp only [Machine.offer]
  split
  · exact hP.occur _ _ (hP.placeFrame f h)
  · exact hP.placeFrame f h

end

/-! ## The laws of ACU -/

/-- What every step keeps of ACU: the latch stamp stands with the pending set, event-only positions have no live level (R165, R166),
and no counter is above its top (R169). -/
structure Lawful (x : Acu) : Prop where
  alarms : AlarmLaw x
  live : CountersBounded x.live
  copies : CountersBounded x.copies

/-- The laws of ACU hold in a state. -/
def AcuLaw (s : State) : Prop := Lawful s.acu

theorem countersBounded_iff (x : Counters) : CountersBounded x ↔ ∀ k : Counter, x.get k ≤ 65535 := by
  constructor
  · rintro ⟨hstation, hdeposits⟩ k
    cases k with
    | deposits c => exact hdeposits c
    | _ => exact hstation _ (by decide)
  · exact fun h => ⟨fun k _ => h k, fun c => h (.deposits c)⟩

theorem get_set_ne {j k : Counter} (h : j ≠ k) (x : Counters) (v : Nat) : (x.set v k).get j = x.get j := by
  cases k with
  | deposits c =>
    cases j with
    | deposits d => exact Quad.get_set_ne _ _ _ _ fun he => h (congrArg Counter.deposits he)
    | _ => rfl
  | _ =>
    cases j
    all_goals first
      | rfl
      | exact absurd rfl h

theorem countersBounded_set {x : Counters} (h : CountersBounded x) {v : Nat} (hv : v ≤ 65535) (k : Counter) :
    CountersBounded (x.set v k) := by
  rw [countersBounded_iff] at h ⊢
  intro j
  by_cases hj : j = k
  · rwa [hj, get_set_same]
  · rw [get_set_ne hj]
    exact h j

theorem countersBounded_zero : CountersBounded .zero := by decide

theorem lawful_cold : Lawful .cold := ⟨by decide, countersBounded_zero, countersBounded_zero⟩

/-- The conditions that have a live level (Table 10-1); the others are event-only. -/
def levelConditions : List Cond := [.lineSilent, .dirGap, .echoFail, .lockFault, .drumHeld, .containerMissing, .unclaimedLift]

theorem positionBit_of_level : ∀ k ∈ levelConditions, ∀ c : Col, positionBit (k.position c) &&& ~~~levelPositions = 0 := by
  decide

/-! ## Reports, counts and offers -/

section
variable {s t u : State}

/-- What leaves ACU alone keeps its laws. -/
theorem AcuLaw.of_acu (h : AcuLaw s) (hacu : t.acu = s.acu) : AcuLaw t := by
  rwa [AcuLaw, hacu]

theorem AcuLaw.ite {p : Prop} [Decidable p] (ht : AcuLaw t) (hu : AcuLaw u) : AcuLaw (if p then t else u) := by
  split <;> assumption

theorem AcuLaw.addCount (h : AcuLaw s) (k : Counter) (n : Nat) : AcuLaw (addCount k n s) :=
  ⟨h.alarms, countersBounded_set h.live (Nat.min_le_left _ _) k, h.copies⟩

/-- An edge that sets its flag stamps an empty set, and keeps the stamp of any other (R166). -/
theorem AcuLaw.setPending (h : AcuLaw s) (k : Cond) (c : Col) : AcuLaw (setPending k c s) := by
  obtain ⟨hlevels, hlatch⟩ := h.alarms
  have hset : (Machine.setPending k c s).acu.pending ≠ 0 := setPending_ne_zero k c s
  have hstamp : (Machine.setPending k c s).acu.latch.isSome = true := by
    simp only [Machine.setPending, State.setAcu_acu]
    split
    · rfl
    · exact hlatch.2 ‹_›
  exact ⟨⟨hlevels, iff_of_true hstamp hset⟩, h.live, h.copies⟩

theorem acuLaw_closed : ReportClosed AcuLaw := ⟨fun h => h.addCount _ _, fun k c h => h.setPending k c, fun _ h => h⟩

theorem AcuLaw.announce (h : AcuLaw s) : AcuLaw (announce s) := acuLaw_closed.announce h

theorem AcuLaw.takeEdge (h : AcuLaw s) (k : Cond) (c : Col) (rise : Bool) : AcuLaw (takeEdge k c rise s) :=
  acuLaw_closed.takeEdge k c rise h

/-- A rise of a condition that has a level keeps the event-only positions low (R165). -/
theorem AcuLaw.raise {k : Cond} (h : AcuLaw s) (hk : k ∈ levelConditions) (c : Col) : AcuLaw (raise k c s) := by
  rcases raise_cases k c s with ⟨-, he⟩ | ⟨-, -, he⟩ <;> rw [he]
  · exact h
  · obtain ⟨hlevels, hlatch⟩ := h.alarms
    have hbits : (s.acu.levels ||| positionBit (k.position c)) &&& ~~~levelPositions = 0 := by
      rw [BitVec.and_comm, BitVec.and_or_distrib_left, BitVec.and_comm, hlevels, BitVec.and_comm, positionBit_of_level k hk c]
      rfl
    have hrisen : AcuLaw (s.setAcu { s.acu with levels := s.acu.levels ||| positionBit (k.position c) }) :=
      ⟨⟨hbits, hlatch⟩, h.live, h.copies⟩
    exact hrisen.takeEdge k c true

theorem AcuLaw.lower (h : AcuLaw s) (k : Cond) (c : Col) : AcuLaw (lower k c s) := by
  rcases lower_cases k c s with ⟨-, he⟩ | ⟨-, -, he⟩ <;> rw [he]
  · exact h
  · obtain ⟨hlevels, hlatch⟩ := h.alarms
    have hbits : (s.acu.levels &&& ~~~positionBit (k.position c)) &&& ~~~levelPositions = 0 := by
      rw [BitVec.and_assoc, BitVec.and_comm (~~~positionBit _), ← BitVec.and_assoc, hlevels]
      exact BitVec.zero_and
    have hfallen : AcuLaw (s.setAcu { s.acu with levels := s.acu.levels &&& ~~~positionBit (k.position c) }) :=
      ⟨⟨hbits, hlatch⟩, h.live, h.copies⟩
    exact hfallen.takeEdge k c false

theorem AcuLaw.occur (h : AcuLaw s) (k : Cond) (c : Col) : AcuLaw (occur k c s) := acuLaw_closed.occur k c h

theorem AcuLaw.count (h : AcuLaw s) (k : Counter) (n : Nat) : AcuLaw (count k n s) :=
  ((h.addCount k n).occur _ _).ite (h.addCount k n)

theorem AcuLaw.offer (h : AcuLaw s) (f : TxFrame) : AcuLaw (offer f s) := acuLaw_closed.offer f h

theorem AcuLaw.reply (h : AcuLaw s) (k : Kind) (f : RxFrame) (l : List Byte) : AcuLaw (reply k f l s) := h.offer _

theorem AcuLaw.performSnapshot (h : AcuLaw s) : AcuLaw (performSnapshot s) := ⟨h.alarms, countersBounded_zero, h.live⟩

theorem AcuLaw.requestedSnapshot (h : AcuLaw s) : AcuLaw (requestedSnapshot s) := by
  obtain ⟨halarms, hlive, hcopies⟩ := h.performSnapshot
  simp only [Machine.requestedSnapshot]
  split <;> exact ⟨halarms, hlive, hcopies⟩

/-- A set that is emptied loses its stamp (R174). -/
theorem AcuLaw.emptyPending (h : AcuLaw s) : AcuLaw (emptyPending s) := by
  obtain ⟨hlevels, -⟩ := h.alarms
  exact ⟨⟨hlevels, by simp [Machine.emptyPending]⟩, h.live, h.copies⟩

theorem AcuLaw.advance (h : AcuLaw s) (d : Nat) : AcuLaw (s.advance d) := by
  unfold State.advance
  split <;> exact ⟨h.alarms, h.live, h.copies⟩

end

end Sys2Proof.AlarmProofs
end

section
/-! SUPPORT. The proofs of chapter 10, continued: the shared operations keep ACU's laws, for they reach ACU by reports, counts and
offers alone. -/

namespace Sys2Proof.AlarmProofs

open Sys2Proof.Machine Sys2Proof.Safety Sys2Proof.FillProofs Sys2Proof.StoreProofs

section
variable {s t : State}

/-! ## Operations that leave ACU alone -/

theorem AcuLaw.setCc (h : AcuLaw s) (c : Col) (x : Cc) : AcuLaw (s.setCc c x) := h

theorem AcuLaw.setFe (h : AcuLaw s) (c : Col) (x : Fe) : AcuLaw (s.setFe c x) := h

theorem AcuLaw.setAu (h : AcuLaw s) (c : Col) (x : Au) : AcuLaw (s.setAu c x) := h

theorem AcuLaw.setEuCol (h : AcuLaw s) (c : Col) (x : EuCol) : AcuLaw (s.setEuCol c x) := h

theorem AcuLaw.setCl (h : AcuLaw s) (x : Cl) : AcuLaw (s.setCl x) := h

theorem AcuLaw.setCd (h : AcuLaw s) (x : Cd) : AcuLaw (s.setCd x) := h

theorem AcuLaw.setSc (h : AcuLaw s) (x : Sc) : AcuLaw (s.setSc x) := h

theorem AcuLaw.setRu (h : AcuLaw s) (x : Ru) : AcuLaw (s.setRu x) := h

theorem AcuLaw.setLc (h : AcuLaw s) (x : Lc) : AcuLaw (s.setLc x) := h

theorem AcuLaw.setNu (h : AcuLaw s) (x : Nu) : AcuLaw (s.setNu x) := h

theorem AcuLaw.setDl (h : AcuLaw s) (x : Dl) : AcuLaw (s.setDl x) := h

theorem AcuLaw.indicate (h : AcuLaw s) (c : Col) (i : Indication) : AcuLaw (indicate c i s) := h

theorem AcuLaw.recomputeFe (h : AcuLaw s) (c : Col) (x : Fe) : AcuLaw (recomputeFe c x s) := h

theorem AcuLaw.storeClass (h : AcuLaw s) (c : Col) (k : FillClass) : AcuLaw (storeClass c k s) := h

theorem AcuLaw.grantFieldsCleared (h : AcuLaw s) (c : Col) : AcuLaw (grantFieldsCleared c s) := h

theorem AcuLaw.beginWrite (h : AcuLaw s) : AcuLaw (beginWrite s) := h.of_acu (by simp)

theorem AcuLaw.placeItems (h : AcuLaw s) (items : List StoreItem) : AcuLaw (placeItems items s) := h.of_acu (by simp)

theorem AcuLaw.dropClaim (h : AcuLaw s) (c : Col) : AcuLaw (dropClaim c s) := h

theorem AcuLaw.discardSettleFailures (h : AcuLaw s) (c : Col) : AcuLaw (discardSettleFailures c s) := h

theorem AcuLaw.setWindow (h : AcuLaw s) (c : Col) (w : Timer → Timer) : AcuLaw (setWindow c w s) := h

theorem AcuLaw.countCycle (h : AcuLaw s) (c : Col) : AcuLaw (countCycle c s) := h.of_acu (by simp)

theorem AcuLaw.requestMeasurement (h : AcuLaw s) (c : Col) : AcuLaw (requestMeasurement c s) := h.of_acu (by simp)

theorem AcuLaw.freeEu (h : AcuLaw s) : AcuLaw (freeEu s) := h.of_acu (by simp)

theorem AcuLaw.euAbsent (h : AcuLaw s) (c : Col) : AcuLaw (euAbsent c s) := h.of_acu (by simp)

theorem AcuLaw.applyStatus (h : AcuLaw s) (r : RevRecord) : AcuLaw (applyStatus r s) := h.of_acu (by simp)

theorem AcuLaw.endReachedWant (h : AcuLaw s) : AcuLaw (endReachedWant s) := h.of_acu (by simp)

theorem AcuLaw.adoptTime (h : AcuLaw s) (clock : Word32) (hops : Nat) : AcuLaw (adoptTime clock hops s) := h.of_acu (by simp)

/-! ## Store, beacons and grants -/

theorem AcuLaw.offerRecord (h : AcuLaw s) (c : Col) (e : Nat) (body : LogBody) : AcuLaw (offerRecord c e body s) := by
  rcases offerRecord_cases c e body s with ⟨-, -, he⟩ | ⟨-, he⟩ <;> rw [he]
  · exact h.of_acu (by simp)
  · exact (h.count _ _).occur _ _

theorem AcuLaw.placeHeld (l : List Nat) (h : AcuLaw s) : AcuLaw (placeHeld l s) := by
  induction l generalizing s with
  | nil => exact h
  | cons slot rest ih => exact .ite (ih (h.placeItems _)) h

theorem AcuLaw.completeWrite (h : AcuLaw s) (item : StoreItem) : AcuLaw (completeWrite item s) :=
  ((h.setSc _).count .storeWrites 1).beginWrite.placeHeld _

theorem AcuLaw.storeWork (h : AcuLaw s) : AcuLaw (storeWork s) :=
  (((h.setCd _).setRu _).setDl _).placeHeld _

theorem AcuLaw.offerBeacon (h : AcuLaw s) : AcuLaw (offerBeacon s) := by
  have hoffered : AcuLaw (if s.queued .beacon then s else Machine.offer beaconFrame s) := h.ite (h.offer _)
  exact hoffered

theorem AcuLaw.summaryChange (h : AcuLaw s) : AcuLaw (summaryChange s) := .ite (.ite h h.offerBeacon) h

theorem AcuLaw.grantEnded (h : AcuLaw s) (c : Col) (r : EndReason) : AcuLaw (grantEnded c r s) := by
  unfold Machine.grantEnded
  split
  · exact h
  · exact ((h.offerRecord c _ _).indicate c _).setAu c _

/-! ## A container's states -/

theorem AcuLaw.setDrive (h : AcuLaw s) (c : Col) (d : Drive) : AcuLaw (setDrive c d s) :=
  h.ite (.ite ((h.setCc c _).lower _ _) (h.setCc c _))

theorem AcuLaw.enterState (h : AcuLaw s) (c : Col) (st : CcState) : AcuLaw (enterState c st s) := by
  have hdriven (x : Cc) := (h.setCc c x).setDrive c st.drive
  exact .ite (hdriven _) (hdriven _).summaryChange

theorem AcuLaw.goByClass (h : AcuLaw s) (c : Col) : AcuLaw (goByClass c s) := h.enterState c _

theorem AcuLaw.leaveFault (h : AcuLaw s) (c : Col) : AcuLaw (leaveFault c s) := .ite ((h.lower _ _).goByClass c) h

theorem AcuLaw.goFault (h : AcuLaw s) (c : Col) : AcuLaw (goFault c s) := (h.enterState c _).leaveFault c

theorem AcuLaw.enterHeld (h : AcuLaw s) (c : Col) (round : Word16) : AcuLaw (enterHeld c round s) := (h.setCc c _).enterState c _

theorem AcuLaw.leaveHeld (h : AcuLaw s) (c : Col) : AcuLaw (leaveHeld c s) := (h.dropClaim c).goByClass c

theorem AcuLaw.endGrant (h : AcuLaw s) (c : Col) (r : EndReason) : AcuLaw (endGrant c r s) := by
  have hended := (h.grantEnded c r).grantFieldsCleared c
  simp only [Machine.endGrant]
  split
  · exact hended.enterHeld c _
  · exact hended.goByClass c

theorem AcuLaw.curtail (h : AcuLaw s) (c : Col) (r : EndReason) : AcuLaw (curtail c r s) := by
  simp only [Machine.curtail]
  split
  · exact h.endGrant c r
  · exact .ite h h
  all_goals exact h

theorem AcuLaw.classReport (h : AcuLaw s) (c : Col) (k : FillClass) : AcuLaw (classReport c k s) := by
  have hstored := h.storeClass c k
  simp only [Machine.classReport]
  split
  case h_4 | h_5 => exact hstored.curtail c _
  case h_6 => exact hstored
  all_goals exact hstored.enterState c _

theorem AcuLaw.acceptanceReport (h : AcuLaw s) (c : Col) : AcuLaw (acceptanceReport c s) := (h.goByClass c).ite h

theorem AcuLaw.failureReport (h : AcuLaw s) (c : Col) : AcuLaw (failureReport c s) :=
  .ite (.ite ((h.setCc c _).goByClass c) (h.setCc c _)) h

theorem AcuLaw.takeClaim (h : AcuLaw s) (c : Col) (round : Word16) : AcuLaw (takeClaim c round s) := by
  simp only [Machine.takeClaim]
  split
  case h_1 | h_2 => exact h.enterHeld c round
  case h_3 | h_4 => exact .ite ((h.setCc c _).curtail c _) h
  all_goals exact h

/-! ## Measurements and the fill -/

theorem AcuLaw.reportClass (h : AcuLaw s) (c : Col) (k : FillClass) : AcuLaw (reportClass c k s) :=
  h.ite (h.classReport c _).summaryChange

theorem AcuLaw.feDeposit (h : AcuLaw s) (c : Col) : AcuLaw (feDeposit c s) := by
  have hcounted (x : Fe) (y : EuCol) := (h.recomputeFe c x).setEuCol c y
  have hchanged (x : Fe) (y : EuCol) (k : FillClass) := ((hcounted x y).storeClass c k).summaryChange
  exact .ite (hcounted _ _) (.ite ((hchanged _ _ _).requestMeasurement c) (hchanged _ _ _))

theorem AcuLaw.fillReset (h : AcuLaw s) (c : Col) : AcuLaw (fillReset c s) := (h.recomputeFe c _).reportClass c _

theorem AcuLaw.echoFailure (h : AcuLaw s) (c : Col) : AcuLaw (echoFailure c s) := by
  have hcounted (x : Fe) := (h.setFe c x).count .echoFails 1
  exact AcuLaw.failureReport (.ite ((hcounted _).raise (by decide) c) (hcounted _)) c

theorem AcuLaw.acceptCandidate (h : AcuLaw s) (c : Col) (m : Nat) : AcuLaw (acceptCandidate c m s) :=
  ((h.recomputeFe c _).reportClass c _).acceptanceReport c

theorem AcuLaw.inferEmptying (h : AcuLaw s) (c : Col) (m : Nat) : AcuLaw (inferEmptying c m s) :=
  ((((h.acceptCandidate c m).setFe c _).setCc c _).offerRecord c _ _).occur _ _

theorem AcuLaw.validReading (h : AcuLaw s) (c : Col) (r : Nat) : AcuLaw (validReading c r s) := by
  have hheard (x y : Fe) := ((h.setFe c x).lower .echoFail c).setFe c y
  exact .ite (.ite (hheard _ _) ((hheard _ _).inferEmptying c _)) ((hheard _ _).acceptCandidate c _)

theorem AcuLaw.takeEchoResult (h : AcuLaw s) (c : Col) (r : EchoResult) (c10 : Nat) : AcuLaw (takeEchoResult c r c10 s) := by
  unfold Machine.takeEchoResult
  split
  · exact h.validReading c _
  · exact h.echoFailure c

theorem AcuLaw.endMeasurement (h : AcuLaw s) (m : Measurement) (r : EchoResult) : AcuLaw (endMeasurement m r s) :=
  (h.takeEchoResult m.cont r m.c10).freeEu

/-! ## Inputs -/

theorem AcuLaw.drumOpenEvent (h : AcuLaw s) (c : Col) : AcuLaw (drumOpenEvent c s) := by
  have hopened := h.setCc c (s.cc.get c).drumOpened
  have hforced := hopened.occur .drumForced c
  simp only [Machine.drumOpenEvent]
  split
  · exact ((hopened.setCc c _).enterState c .depositing).setWindow c _
  · exact hforced.goFault c
  · exact hforced.goFault c
  · exact (hforced.discardSettleFailures c).goFault c
  · exact (hforced.dropClaim c).goFault c
  · exact hforced
  all_goals exact hopened

theorem AcuLaw.completeCycle (h : AcuLaw s) (c : Col) : AcuLaw (completeCycle c s) :=
  (((h.setCc c _).count (.deposits c) 1).feDeposit c).countCycle c

theorem AcuLaw.returnToGranted (h : AcuLaw s) (c : Col) (cycle : Bool) : AcuLaw (returnToGranted c cycle s) :=
  ((h.setCc c _).enterState c .granted).setWindow c _

theorem AcuLaw.decideClosing (h : AcuLaw s) (c : Col) (cycle full : Bool) : AcuLaw (decideClosing c cycle full s) := by
  unfold Machine.decideClosing
  split
  · exact h.endGrant c _
  · exact .ite (h.endGrant c _) (.ite (h.endGrant c _) (h.returnToGranted c cycle))

theorem AcuLaw.endOpening (h : AcuLaw s) (c : Col) : AcuLaw (endOpening c s) :=
  .ite ((h.completeCycle c).decideClosing c _ _) (h.decideClosing c _ _)

theorem AcuLaw.drumClosedEvent (h : AcuLaw s) (c : Col) : AcuLaw (drumClosedEvent c s) := by
  have hshut := (h.setCc c (s.cc.get c).drumShut).lower .drumHeld c
  simp only [Machine.drumClosedEvent]
  split
  · exact hshut.endOpening c
  · exact hshut.leaveFault c
  all_goals exact hshut

theorem AcuLaw.lockSenseEvent (h : AcuLaw s) (c : Col) (level : LockLevel) : AcuLaw (lockSenseEvent c level s) :=
  AcuLaw.leaveFault (.ite ((h.setCc c _).lower _ _) (h.setCc c _)) c

theorem AcuLaw.liftContainer (h : AcuLaw s) (c : Col) : AcuLaw (liftContainer c s) := by
  have hended {p : Prop} [Decidable p] : AcuLaw (if p then Machine.grantEnded c .lifted s else s) := (h.grantEnded c _).ite h
  have hlifted {p : Prop} [Decidable p] (x : Cc) := ((hended (p := p)).setCc c x).enterState c .lifted
  exact .ite ((hlifted _).raise (by decide) c) (hlifted _)

theorem AcuLaw.containerAbsentEvent (h : AcuLaw s) (c : Col) : AcuLaw (containerAbsentEvent c s) := by
  simp only [Machine.containerAbsentEvent]
  refine AcuLaw.euAbsent ?_ c
  split
  case h_1 | h_2 => exact h.setCc c _
  all_goals exact (h.setCc c _).liftContainer c

theorem AcuLaw.afterReturn (h : AcuLaw s) (c : Col) : AcuLaw (afterReturn c s) := by
  simp only [Machine.afterReturn]
  split
  · exact (h.occur _ _).goFault c
  · exact h.goFault c
  · exact (h.setCc c _).enterState c _

theorem AcuLaw.returnContainer (h : AcuLaw s) (c : Col) : AcuLaw (returnContainer c s) := by
  have hcleared := ((h.offerRecord c 0 (emptiedBody (s.cc.get c))).lower .containerMissing c).lower .unclaimedLift c
  exact (((hcleared.fillReset c).setCc c _).setEuCol c _).summaryChange.afterReturn c

theorem AcuLaw.containerPresentEvent (h : AcuLaw s) (c : Col) : AcuLaw (containerPresentEvent c s) := by
  simp only [Machine.containerPresentEvent]
  split
  case h_1 | h_2 => exact (h.setCc c _).returnContainer c
  all_goals exact h.setCc c _

theorem AcuLaw.inputEvent (h : AcuLaw s) (c : Col) (l : InputLevel) : AcuLaw (inputEvent c s l) := by
  unfold Machine.inputEvent
  split
  · exact h.drumOpenEvent c
  · exact h.drumClosedEvent c
  · exact h.lockSenseEvent c _
  · exact h.containerAbsentEvent c
  · exact h.containerPresentEvent c

theorem AcuLaw.inputChange (h : AcuLaw s) (c : Col) (l : InputLevel) : AcuLaw (inputChange c l s) :=
  .ite (h.ite (h.inputEvent c l)) (.ite h h)

theorem AcuLaw.inputSettles (h : AcuLaw s) (c : Col) (l : InputLevel) : AcuLaw (inputSettles c l s) :=
  .ite (h.ite (.ite h (h.inputEvent c l))) (.ite h h)

theorem AcuLaw.failGrant (h : AcuLaw s) (c : Col) : AcuLaw (failGrant c s) :=
  (((h.grantEnded c .window).grantFieldsCleared c).setCc c _).goFault c

theorem AcuLaw.confirmationExpires (h : AcuLaw s) (c : Col) : AcuLaw (confirmationExpires c s) := by
  have hraised (x : Cc) := (h.setCc c x).raise (k := .lockFault) (by decide) c
  simp only [Machine.confirmationExpires]
  split
  · exact (hraised _).goFault c
  · exact (hraised _).goFault c
  · exact ((hraised _).discardSettleFailures c).goFault c
  · exact (hraised _).failGrant c
  · exact ((hraised _).dropClaim c).goFault c
  all_goals exact hraised _

/-! ## Cards and grants -/

theorem AcuLaw.refuse (h : AcuLaw s) (c : Col) (cause : IndCode) (card : Option Word32) (target : Option Target) :
    AcuLaw (refuse c cause card target s) := by
  have hcounted := h.count .refusals 1
  exact (AcuLaw.indicate (.ite (hcounted.count .redirects 1) hcounted) c _).offerRecord c _ _

theorem AcuLaw.refuseClosed (h : AcuLaw s) (c : Col) (card : Word32) : AcuLaw (refuseClosed c card s) := by
  unfold Machine.refuseClosed
  split <;> exact h.refuse c _ _ _

theorem AcuLaw.refuseFor (h : AcuLaw s) (c : Col) (cause : IndCode) (card : Word32) : AcuLaw (refuseFor c cause card s) := by
  unfold Machine.refuseFor
  split
  · exact h.refuseClosed c card
  all_goals exact h.refuse c _ _ _

theorem AcuLaw.present (h : AcuLaw s) (c : Col) (card : Word32) (issue : Byte) (bad : Bool) :
    AcuLaw (present c card issue bad s) := by
  have hcounted := h.count .cardsPresented 1
  simp only [Machine.present]
  split
  · exact .ite (hcounted.of_acu (by simp)) hcounted
  · split
    · exact hcounted.refuseFor c _ card
    · exact hcounted.of_acu (by simp)

theorem AcuLaw.cardReadTaken (h : AcuLaw s) (c : Col) (card : Word32) (issue : Byte) (bad : Bool) :
    AcuLaw (cardReadTaken c card issue bad s) := .ite (.ite (h.present c card issue bad) h) h

theorem AcuLaw.repeatTaken (h : AcuLaw s) (c : Col) : AcuLaw (repeatTaken c s) := .ite h h

theorem AcuLaw.answerRequest (h : AcuLaw s) (c : Col) (g : Grant) : AcuLaw (answerRequest c g s) := by
  have htaken : AcuLaw (takeGrant c s) := (h.setCc c _).enterState c .granted
  have hissued (x : Au) (i : Indication) := ((htaken.setAu c x).count .grants 1).indicate c i
  exact .ite (.ite ((hissued _ _).curtail c _) (hissued _ _)) ((h.setAu c _).refuseClosed c _)

/-! ## Revocations, time and beacons -/

theorem AcuLaw.testPull (h : AcuLaw s) : AcuLaw (testPull s) := by
  unfold Machine.testPull
  split
  · exact h
  · refine AcuLaw.ite ?_ h
    split
    · exact h.offer _
    · exact h

theorem AcuLaw.wantPull (h : AcuLaw s) (target : PullTarget) (w : Nat) : AcuLaw (wantPull target w s) := (h.setRu _).testPull

theorem AcuLaw.endPull (h : AcuLaw s) : AcuLaw (endPull s) := (h.setRu _).testPull

theorem AcuLaw.blockCard (h : AcuLaw s) (card : Word32) : AcuLaw (blockCard card s) := by
  unfold Machine.blockCard
  split
  · exact h
  · split
    · exact h
    · exact .ite (h.curtail _ _) h

theorem AcuLaw.announceRecord (h : AcuLaw s) (r : RevRecord) : AcuLaw (announceRecord r s) :=
  AcuLaw.count (.ite (h.blockCard r.card) h) _ _

theorem AcuLaw.clearGap (h : AcuLaw s) : AcuLaw (clearGap s) := (h.setRu _).lower _ _

theorem AcuLaw.clearReachedGap (h : AcuLaw s) : AcuLaw (clearReachedGap s) := by
  unfold Machine.clearReachedGap
  split
  · exact h.clearGap.ite h
  · exact h

theorem AcuLaw.applyNext (h : AcuLaw s) (f : RxFrame) (r : RevRecord) : AcuLaw (applyNext f r s) :=
  .ite ((((h.placeItems _).applyStatus r).setRu _).announceRecord r).clearReachedGap.endReachedWant (h.wantPull _ _)

theorem AcuLaw.applyJump (h : AcuLaw s) (f : RxFrame) (r : RevRecord) : AcuLaw (applyJump f r s) :=
  .ite ((((((h.placeItems _).applyStatus r).setRu _).announceRecord r).clearGap).setRu _) (h.wantPull _ _)

theorem AcuLaw.takeRecord (h : AcuLaw s) (f : RxFrame) (jump : Bool) (r : RevRecord) : AcuLaw (takeRecord f jump r s) :=
  h.ite (.ite (h.applyJump f r) (.ite (h.applyNext f r) (h.wantPull _ _)))

theorem AcuLaw.takeRecords (h : AcuLaw s) (f : RxFrame) (jump : Bool) (l : List (Option RevRecord)) :
    AcuLaw (takeRecords f jump l s) := by
  induction l generalizing s jump with
  | nil => exact h
  | cons r l ih =>
    cases r with
    | none => exact h
    | some r => exact ih (h.takeRecord f jump r) false

theorem AcuLaw.takePush (h : AcuLaw s) (f : RxFrame) : AcuLaw (takePush f s) := by
  have htaken := h.takeRecords f (pushJumps f) (pushedRecords f)
  exact .ite (.ite htaken.endPull htaken) h

theorem AcuLaw.takePull (h : AcuLaw s) (f : RxFrame) : AcuLaw (takePull f s) :=
  .ite (.ite (h.reply _ _ _) (.ite (h.reply _ _ _) (h.reply _ _ _))) h

theorem AcuLaw.takeGap (h : AcuLaw s) (f : RxFrame) : AcuLaw (takeGap f s) := by
  have hnoted (g : Nat) : AcuLaw (noteGap g s) := .ite (h.raise (k := .dirGap) (by decide) 0) h
  exact (hnoted _).endPull.ite h

theorem AcuLaw.takeTime (h : AcuLaw s) (f : RxFrame) : AcuLaw (takeTime f s) := .ite (h.of_acu (by simp)) h

theorem AcuLaw.takeIntoTable (h : AcuLaw s) (f : RxFrame) : AcuLaw (takeIntoTable f s) := by
  unfold Machine.takeIntoTable
  split
  · exact (h.setNu _).count _ _
  · split <;> exact h

theorem AcuLaw.takeBeacon (h : AcuLaw s) (f : RxFrame) : AcuLaw (takeBeacon f s) := by
  have hadopted := (h.takeIntoTable f).adoptTime (BitVec.ofNat 32 (fieldAt f.payload 2 4)) (byteAt f.payload 6).toNat
  exact .ite (.ite (hadopted.wantPull _ _) hadopted) h

/-! ## Requests -/

theorem AcuLaw.putCard (h : AcuLaw s) (e : DirEntry) : AcuLaw (putCard e s).2 := by
  have hput (slot : Nat) (w : DirWay) : AcuLaw (putEntry slot w s) := h.of_acu (by simp [putEntry])
  unfold Machine.putCard
  split
  · unfold replaceEntry
    split_ifs
    · exact h
    · exact hput _ _
    · exact h
  · unfold createEntry
    split
    · exact h.occur _ _
    · split_ifs
      · exact hput _ _
      · exact h

theorem AcuLaw.dropCard (h : AcuLaw s) (card : Word32) : AcuLaw (dropCard card s).2 := by
  unfold Machine.dropCard
  split
  · exact h
  · split_ifs
    · exact h.of_acu (by simp)
    · exact h

theorem AcuLaw.dirResult {r : RequestResult × State} (h : AcuLaw r.2) (f : RxFrame) : AcuLaw (dirResult f r) :=
  .ite (h.reply _ _ _) h

theorem AcuLaw.takeDirPut (h : AcuLaw s) (f : RxFrame) : AcuLaw (takeDirPut f s) := .ite ((h.putCard _).dirResult f) h

theorem AcuLaw.takeDirDrop (h : AcuLaw s) (f : RxFrame) : AcuLaw (takeDirDrop f s) := .ite ((h.dropCard _).dirResult f) h

theorem AcuLaw.takeRollcall (h : AcuLaw s) (f : RxFrame) : AcuLaw (takeRollcall f s) := .ite h h

theorem AcuLaw.answerClaim (h : AcuLaw s) (f : RxFrame) : AcuLaw (answerClaim f s) := by
  have hdecided : AcuLaw (decideClaim f s).2 := by
    simp only [decideClaim]
    split
    · exact h
    · exact .ite (h.takeClaim _ _) h
  exact h.ite (.ite (hdecided.reply _ _ _) (h.reply _ _ _))

theorem AcuLaw.answerRelease (h : AcuLaw s) (f : RxFrame) : AcuLaw (answerRelease f s) :=
  h.ite (.ite (.ite ((h.leaveHeld _).reply _ _ _) (h.reply _ _ _)) (h.reply _ _ _))

theorem AcuLaw.answerSubject (h : AcuLaw s) (f : RxFrame) (k : Subject) (args : List Byte) :
    AcuLaw (answerSubject f k args s) := by
  unfold Machine.answerSubject
  split
  case h_1 => exact h.emptyPending.reply _ _ _
  all_goals exact h.reply _ _ _

theorem AcuLaw.takeQuery (h : AcuLaw s) (f : RxFrame) : AcuLaw (takeQuery f s) := by
  unfold Machine.takeQuery
  split
  · exact h.reply _ _ _
  · split
    · exact .ite (h.answerSubject f _ _) (h.reply _ _ _)
    · exact h.reply _ _ _

theorem AcuLaw.takeSnapshot (h : AcuLaw s) (f : RxFrame) : AcuLaw (takeSnapshot f s) :=
  .ite (h.requestedSnapshot.reply _ _ _) h

end

end Sys2Proof.AlarmProofs
end

section
/-! SUPPORT. The proofs of chapter 10, continued: the starts, the frames and the line keep ACU's laws (R182 to R190), and so does every
step. -/

namespace Sys2Proof.AlarmProofs

open Sys2Proof.Machine Sys2Proof.Safety Sys2Proof.FillProofs Sys2Proof.StoreProofs

section
variable {s t : State}

/-! ## Starts -/

/-- A cold reset clears ACU; a warm one clears the levels and keeps the pending set with its stamp (R182). -/
theorem AcuLaw.resetBlocks (h : AcuLaw s) : AcuLaw (resetBlocks s) := by
  unfold Machine.resetBlocks
  split
  · exact lawful_cold
  · obtain ⟨⟨-, hlatch⟩, hlive, hcopies⟩ := h.addCount .logLost s.sc.staging.length
    exact ⟨⟨BitVec.zero_and, hlatch⟩, hlive, hcopies⟩

theorem AcuLaw.afterDeparture (h : AcuLaw s) (f : TxFrame) : AcuLaw (afterDeparture f s) := .ite h.resetBlocks h

theorem AcuLaw.promiseRestart (h : AcuLaw s) (f : RxFrame) : AcuLaw (promiseRestart f s) := by
  have hpromised : AcuLaw { s with restartPromised := true } := h
  simp only [Machine.promiseRestart]
  split
  · exact (hpromised.offer _).afterDeparture _
  all_goals exact hpromised.offer _

theorem AcuLaw.takeRestart (h : AcuLaw s) (f : RxFrame) : AcuLaw (takeRestart f s) :=
  .ite (.ite (h.reply _ _ _) (h.promiseRestart f)) h

theorem losePower_law (s : State) : AcuLaw (losePower s) := lawful_cold

theorem startPowered_law (s : State) : AcuLaw (startPowered s) := .ite (t := State.setCl _ _) lawful_cold lawful_cold

theorem AcuLaw.driveResetLow (h : AcuLaw s) : AcuLaw (driveResetLow s) := AcuLaw.setCl (.ite h.resetBlocks h) _

theorem AcuLaw.releaseReset (h : AcuLaw s) : AcuLaw (releaseReset s) := .ite (t := beginWork _) h h

/-- The deposits of the containers that are not used are forgotten (R190). -/
theorem AcuLaw.takeImage (h : AcuLaw s) (b : List Byte) : AcuLaw (takeImage b s) := by
  refine ⟨h.alarms, (countersBounded_iff _).2 fun k => ?_, h.copies⟩
  have hk := (countersBounded_iff _).1 h.live k
  cases k with
  | deposits c =>
    simp only [Machine.takeImage, depositsInUse, Counters.get, Quad.get_ofFn]
    split
    · exact hk
    · exact Nat.zero_le _
  | _ => exact hk

theorem enterSafe_law (s : State) : AcuLaw (enterSafe s) := lawful_cold

theorem AcuLaw.enterRun (h : AcuLaw s) : AcuLaw (enterRun s) := by
  have hbase : AcuLaw (entryBase s) := ⟨h.alarms, h.live, h.copies⟩
  have hreported : AcuLaw (entryReports (entryBase s)) :=
    entryReports_induction (.ite hbase hbase.announce) (fun _ c ht => ht.raise (by decide) c) (fun _ k ht => ht.occur k 0)
  rw [enterRun_eq]
  exact hreported.of_acu (by simp [forgetDue])

/-! ## Frames -/

theorem AcuLaw.hearFrame (h : AcuLaw s) (f : RxFrame) : AcuLaw (hearFrame f s) := (h.setLc _).lower _ _

theorem AcuLaw.checkSix (h : AcuLaw s) (k : Kind) (f : RxFrame) : AcuLaw (Verdict.after (checkSix k f s)) := by
  have hok := h.count .framesRxOk 1
  simp only [Machine.checkSix]
  split_ifs
  · exact hok
  · exact hok.reply _ _ _
  all_goals exact hok

theorem AcuLaw.checkHeader (h : AcuLaw s) (b : Byte) (f : RxFrame) : AcuLaw (Verdict.after (checkHeader b f s)) := by
  unfold Machine.checkHeader
  split
  · exact (h.count _ _).occur _ _
  · split
    · exact h.count _ _
    · split
      · exact h.count _ _
      · split
        · exact h.count _ _
        · exact h.checkSix _ f

/-- The seven checks keep the laws, whatever they decide (R107 to R111). -/
theorem AcuLaw.receiveFrame (h : AcuLaw s) (b : Byte) (f : RxFrame) : AcuLaw (Verdict.after (receiveFrame b f s)) := by
  have hended : AcuLaw (endReception s) := h
  unfold Machine.receiveFrame
  split
  · exact h
  · split
    · exact hended.count _ _
    · exact (hended.hearFrame f).checkHeader b f

theorem AcuLaw.ownerOf (h : AcuLaw s) (k : Kind) (f : RxFrame) : AcuLaw (ownerOf k f s) := by
  cases k with
  | beacon => exact h.takeBeacon f
  | revokePull => exact h.takePull f
  | revokePush => exact h.takePush f
  | revokeGap => exact h.takeGap f
  | time => exact h.takeTime f
  | dirPut => exact h.takeDirPut f
  | dirDrop => exact h.takeDirDrop f
  | rollcall => exact h.takeRollcall f
  | claim => exact h.answerClaim f
  | release => exact h.answerRelease f
  | query => exact h.takeQuery f
  | snapshot => exact h.takeSnapshot f
  | restart => exact h.takeRestart f
  | alarm | dirResult | claimReply | queryReply | reply => exact h

theorem AcuLaw.withFrame (h : AcuLaw s) (k : Kind) (f : RxFrame) : AcuLaw (withFrame k f (Machine.ownerOf k) s) := by
  have hchecked := h.receiveFrame k.code f
  rcases withFrame_cases k f (Machine.ownerOf k) s with ⟨t, hv, he⟩ | ⟨t, hv, he⟩ <;> rw [he] <;> rw [hv] at hchecked
  · exact hchecked
  · exact AcuLaw.ownerOf hchecked k f

theorem AcuLaw.receiveRaw (h : AcuLaw s) (b : Byte) (f : RxFrame) : AcuLaw (receiveRaw b f s) := by
  have hchecked := h.receiveFrame b f
  unfold Machine.receiveRaw
  split <;> rename_i hv <;> rw [hv] at hchecked
  · exact hchecked
  · split
    · exact AcuLaw.ownerOf hchecked _ f
    · exact hchecked

/-! ## The line -/

theorem AcuLaw.collide (h : AcuLaw s) (f : TxFrame) : AcuLaw (collide f s) := by
  have hcounted (x : Lc) := (h.setLc x).count .collisions 1
  simp only [Machine.collide]
  split
  · exact hcounted _
  · exact ((hcounted _).count _ _).afterDeparture _
  · exact ((hcounted _).count _ _).afterDeparture _

theorem AcuLaw.sent (h : AcuLaw s) (f : TxFrame) : AcuLaw (sent f s) := ((h.setLc _).count _ _).afterDeparture f

theorem AcuLaw.deadlineExpires (h : AcuLaw s) (f : TxFrame) : AcuLaw (deadlineExpires f s) :=
  .ite (h.setLc _) (((h.setLc _).count _ _).afterDeparture f)

theorem AcuLaw.enterBackoff (h : AcuLaw s) (f : TxFrame) : AcuLaw (enterBackoff f s) := h.of_acu (by simp)

theorem AcuLaw.waitSlots (h : AcuLaw s) (f : TxFrame) (n : Nat) : AcuLaw (waitSlots f n s) := h.of_acu (by simp)

theorem AcuLaw.gapIfPassed (h : AcuLaw s) : AcuLaw (gapIfPassed s) := h.of_acu (by simp)

/-! ## One command -/

/-- A command answers with a next state in which ACU's laws hold. -/
def AnswersLawful (o : Host.Outcome State Fault Refusal) : Prop := ∃ t, o = .next t ∧ AcuLaw t

theorem AcuLaw.answers (h : AcuLaw t) : AnswersLawful (.next t) := ⟨t, rfl, h⟩

/-- The measurements end or move on (R28, R29). -/
theorem AcuLaw.execMeasurement (h : AcuLaw s) (d : Nat) (above : Bool) :
    AnswersLawful (execBurstEnd d s) ∧ AnswersLawful (execBlankEnd d above s) ∧ AnswersLawful (execEchoRise d s) ∧
    AnswersLawful (execListenEnd d s) := by
  have ha := h.advance d
  refine ⟨answers ?_, answers ?_, answers ?_, answers ?_⟩
  · split <;> exact ha
  · split
    · exact .ite (ha.endMeasurement _ _) ha
    · exact ha
  · split
    · exact .ite (ha.endMeasurement _ _) ha
    · exact ha
  · split
    · exact ha.endMeasurement _ _
    · exact ha

theorem AcuLaw.execTemperatureRead (h : AcuLaw s) (d : Nat) (v : Option Int) : AnswersLawful (execTemperatureRead d v s) := by
  have ha := h.advance d
  refine answers ?_
  split
  · exact .ite ha ha
  · exact ha

theorem AcuLaw.execReaderMessageDiscarded (h : AcuLaw s) (d : Nat) (c : Col) (l : List Byte) :
    AnswersLawful (execReaderMessageDiscarded d c l s) := by
  have ha := h.advance d
  refine answers ?_
  split
  · exact ha
  · exact ha.cardReadTaken c _ _ _
  · exact ha.repeatTaken c

theorem AcuLaw.execGrantRequest (h : AcuLaw s) (d : Nat) (c : Col) : AnswersLawful (execGrantRequest d c s) := by
  have ha := h.advance d
  refine answers (.ite ?_ ha)
  split
  · exact ha.ite (ha.answerRequest c _)
  · exact ha

theorem AcuLaw.execStoreWriteComplete (h : AcuLaw s) (d : Nat) : AnswersLawful (execStoreWriteComplete d s) := by
  have ha := h.advance d
  refine answers (.ite ?_ ha)
  split
  · exact ha.completeWrite _
  · exact ha

/-- The frame in access waits, is sent, or meets another (R117 to R119). -/
theorem AcuLaw.execAccess (h : AcuLaw s) (d : Nat) :
    AnswersLawful (execClassGapReached d s) ∧ AnswersLawful (execBackoffSlotEnd d s) ∧ AnswersLawful (execCollision d s) ∧
    AnswersLawful (execTransmissionComplete d s) := by
  have ha := h.advance d
  refine ⟨answers ?_, answers ?_, answers ?_, answers ?_⟩
  · split
    · exact .ite ((ha.setLc _).enterBackoff _) ha
    · exact ha
  · split
    · exact .ite (ha.waitSlots _ _) ha
    · exact ha
  · split
    · exact ha.collide _
    · exact ha
  · split
    · exact ha.sent _
    · exact ha

theorem AcuLaw.execReplyDeadlineExpiry (h : AcuLaw s) (d n : Nat) : AnswersLawful (execReplyDeadlineExpiry d n s) := by
  have ha := h.advance d
  refine answers ?_
  split
  · exact .ite (ha.deadlineExpires _) ha
  · exact ha

theorem AcuLaw.execRollcallSlotTime (h : AcuLaw s) (d : Nat) : AnswersLawful (execRollcallSlotTime d s) := by
  have ha := h.advance d
  refine answers ?_
  split
  · exact ha
  · split
    · exact ha
    · exact .ite ha ha

/-- The expiries of the column timers (R10, R14, R18). -/
theorem AcuLaw.execColumnTimer (h : AcuLaw s) (d : Nat) (c : Col) :
    AnswersLawful (execDrumHeldExpiry d c s) ∧ AnswersLawful (execLiftLimitExpiry d c s) ∧
    AnswersLawful (execHoldTimerExpiry d c s) := by
  have ha := h.advance d
  exact ⟨answers (.ite ((ha.setCc c _).raise (by decide) c) ha),
    answers (.ite (((ha.setCc c _).enterState c .missing).raise (by decide) c) ha),
    answers (.ite (((ha.setCc c _).count .claimLapsed 1).leaveHeld c) ha)⟩

/-- The expiries of the request timers (R24). -/
theorem AcuLaw.execRequestTimer (h : AcuLaw s) (d : Nat) (c : Col) :
    AnswersLawful (execEuPeriodicTimerExpiry d c s) ∧ AnswersLawful (execSettleTimerExpiry d c s) ∧
    AnswersLawful (execReturnTimerExpiry d c s) := by
  have ha := h.advance d
  exact ⟨answers (.ite ((ha.setEuCol c _).requestMeasurement c) ha), answers (.ite ((ha.setEuCol c _).requestMeasurement c) ha),
    answers (.ite ((ha.setEuCol c _).requestMeasurement c) ha)⟩

/-- The expiries of the timers of pulls and beacons, and of the silence of the line (R97, R113, R127). -/
theorem AcuLaw.execLineTimer (h : AcuLaw s) (d : Nat) :
    AnswersLawful (execPullHoldoffExpiry d s) ∧ AnswersLawful (execBeaconHoldoffExpiry d s) ∧
    AnswersLawful (execSilenceTimerExpiry d s) ∧ AnswersLawful (execRollcallWindowClose d s) := by
  have ha := h.advance d
  exact ⟨answers (.ite (ha.setRu _).testPull ha), answers (.ite (.ite (ha.setNu _).offerBeacon (ha.setNu _)) ha),
    answers (.ite ((ha.setLc _).raise (by decide) 0) ha), answers (.ite (ha.setLc _).gapIfPassed ha)⟩

/-- Every command keeps ACU's laws. -/
theorem AcuLaw.exec (h : AcuLaw s) (i : Instr) : AnswersLawful (exec i s) := by
  cases i with
  | powerOn d => exact answers (startPowered_law _)
  | lossOfPower d => exact answers (.ite (losePower_law _) (h.advance d))
  | resetNLow d => exact answers ((h.advance d).ite (h.advance d).driveResetLow)
  | resetNHigh d => exact answers ((h.advance d).releaseReset.ite (h.advance d))
  | configurationImageRead d l => exact answers (.ite (((h.advance d).takeImage l).ite (enterSafe_law _)) (h.advance d))
  | startingStoreWork d => exact answers (.ite ((h.advance d).setCl _).storeWork (h.advance d))
  | containerStateDerivation d =>
    have hderived : AcuLaw (deriveStates (s.advance d)) := h.advance d
    exact answers (hderived.enterRun.ite (h.advance d))
  | inputLevelSettled d c level => exact answers ((h.advance d).inputSettles c level)
  | drumOpen d c | drumClosed d c | lockSenseEngaged d c | lockSenseReleased d c | containerAbsent d c | containerPresent d c =>
    exact answers ((h.advance d).inputChange c _)
  | confirmationTimerExpiry d c => exact answers (((h.advance d).confirmationExpires c).ite (h.advance d))
  | drumHeldExpiry d c => exact (h.execColumnTimer d c).1
  | liftLimitExpiry d c => exact (h.execColumnTimer d c).2.1
  | holdTimerExpiry d c => exact (h.execColumnTimer d c).2.2
  | cardRead d c card issue bad => exact answers ((h.advance d).cardReadTaken c card issue bad)
  | repeatIndication d c => exact answers ((h.advance d).repeatTaken c)
  | readerMessageDiscarded d c l => exact h.execReaderMessageDiscarded d c l
  | indicationSendComplete d c => exact answers (.ite (h.advance d) (h.advance d))
  | grantRequest d c => exact h.execGrantRequest d c
  | windowTimerExpiry d c => exact answers (((h.advance d).endGrant c _).ite (h.advance d))
  | euPeriodicTimerExpiry d c => exact (h.execRequestTimer d c).1
  | settleTimerExpiry d c => exact (h.execRequestTimer d c).2.1
  | returnTimerExpiry d c => exact (h.execRequestTimer d c).2.2
  | burstEnd d => exact (h.execMeasurement d true).1
  | blankEnd d above => exact (h.execMeasurement d above).2.1
  | echoRise d => exact (h.execMeasurement d true).2.2.1
  | listenEnd d => exact (h.execMeasurement d true).2.2.2
  | temperatureRead d v => exact h.execTemperatureRead d v
  | storeWriteComplete d => exact h.execStoreWriteComplete d
  | dirPut d f => exact answers ((h.advance d).withFrame .dirPut f)
  | dirDrop d f => exact answers ((h.advance d).withFrame .dirDrop f)
  | revokePush d f => exact answers ((h.advance d).withFrame .revokePush f)
  | revokePull d f => exact answers ((h.advance d).withFrame .revokePull f)
  | revokeGap d f => exact answers ((h.advance d).withFrame .revokeGap f)
  | pullHoldoffExpiry d => exact (h.execLineTimer d).1
  | pullOutstandingTimeout d => exact answers ((h.advance d).endPull.ite (h.advance d))
  | timeFrame d f => exact answers ((h.advance d).withFrame .time f)
  | beacon d f => exact answers ((h.advance d).withFrame .beacon f)
  | rollcall d f => exact answers ((h.advance d).withFrame .rollcall f)
  | claim d f => exact answers ((h.advance d).withFrame .claim f)
  | release d f => exact answers ((h.advance d).withFrame .release f)
  | queryAlarms d f | queryCounters d f | queryContainers d f | queryNeighbours d f | queryStatus d f | queryDirGet d f
  | queryLog d f | queryBadSubject d f => exact answers ((h.advance d).withFrame .query _)
  | snapshot d f => exact answers ((h.advance d).withFrame .snapshot f)
  | restart d f => exact answers ((h.advance d).withFrame .restart f)
  | frameNotDispatched d f =>
    have hended : AcuLaw (endReception (s.advance d)) := h.advance d
    exact answers (.ite (((h.advance d).receiveRaw _ _).ite (hended.count _ _)) (h.advance d))
  | lineActivity d signal => exact answers (.ite (h.advance d) (h.advance d))
  | classGapReached d => exact (h.execAccess d).1
  | backoffSlotEnd d => exact (h.execAccess d).2.1
  | collision d => exact (h.execAccess d).2.2.1
  | transmissionComplete d => exact (h.execAccess d).2.2.2
  | replyDeadlineExpiry d n => exact h.execReplyDeadlineExpiry d n
  | silenceTimerExpiry d => exact (h.execLineTimer d).2.2.1
  | rollcallSlotTime d => exact h.execRollcallSlotTime d
  | rollcallWindowClose d => exact (h.execLineTimer d).2.2.2
  | beaconPeriodicTimerExpiry d => exact answers ((h.advance d).offerBeacon.ite (h.advance d))
  | beaconHoldoffExpiry d => exact (h.execLineTimer d).2.1
  | neighbourAgeTick d | hopAgingExpiry d => exact answers (.ite (h.advance d) (h.advance d))
  | clockSecond d => exact answers (.ite (.ite ((h.advance d).of_acu (by simp [tickClock])) (h.advance d)) (h.advance d))
  | reportTimerExpiry d => exact answers ((h.advance d).requestedSnapshot.ite (h.advance d))

end

/-- Settles O13: a step is one command on the queue's rest, and every command reaches ACU by operations that keep its laws. -/
theorem stepKeepsAlarmsAndCounters : Obligations.StepKeepsAlarmsAndCounters := by
  intro s t ⟨halarms, hlive, hcopies⟩ hstep
  have h : AcuLaw s := ⟨halarms, hlive, hcopies⟩
  suffices ht : AcuLaw t from ⟨ht.alarms, ht.live, ht.copies⟩
  unfold step at hstep
  split at hstep
  · cases hstep
    exact h
  · rename_i i rest _
    have hrest : AcuLaw { s with pending := rest } := h
    obtain ⟨u, hu, hlaw⟩ := hrest.exec i
    rw [hu] at hstep
    cases hstep
    exact hlaw

end Sys2Proof.AlarmProofs
end

section
/-! SUPPORT. The proofs of chapter 10, continued: what an edge announces and how counters saturate (R165 to R170). -/

namespace Sys2Proof.AlarmProofs

open Sys2Proof.Machine Sys2Proof.Safety Sys2Proof.FillProofs Sys2Proof.StoreProofs

section
variable {s : State}

/-! ## The ALARM that a new flag offers (R167) -/

/-- An ALARM changes no latch stamp: COUNTER_FULL, which its offer may bring, finds a pending set (R166, R170). -/
theorem announce_latch (h : s.acu.pending ≠ 0) : (announce s).acu.latch = s.acu.latch := by
  have hclosed : ReportClosed fun t => t.acu.pending ≠ 0 ∧ t.acu.latch = s.acu.latch :=
    ⟨id, fun k c ht => ⟨setPending_ne_zero k c _, (if_neg ht.1).trans ht.2⟩, fun _ => id⟩
  exact (hclosed.announce ⟨h, rfl⟩).2

/-- At own address 0 no ALARM is offered (R104). -/
theorem announce_refused (h : s.cfg.ownAddress = 0) : announce s = s := by
  have hrefused : placementOf alarmFrame s = .refused := if_pos h
  simp [announce, offerAlarm, placementFills, placeFrame, hrefused]

/-- With room in the queue and no ALARM there, the ALARM is placed and nothing is counted (R115). -/
theorem announce_placed (hown : s.cfg.ownAddress ≠ 0) (hnone : s.queued .alarm = false) (hroom : s.lc.queue.length < 8) :
    announce s = s.setLc (headTakesAccess (putFrame alarmFrame s.lc)) := by
  have hplaced : placementOf alarmFrame s = .placed := by rw [placementOf, if_neg hown, if_pos hroom]
  simp [announce, offerAlarm, placementFills, placeFrame, hplaced, hnone]

theorem queued_iff (k : Kind) : s.queued k = true ↔ ∃ g ∈ s.lc.queue, g.kind = k := by simp [State.queued]

/-- An edge that newly sets its flag changes the pending set, the latch stamp, the counters and the line alone. -/
theorem takeEdge_eq_update (k : Cond) (c : Col) (rise : Bool) (s : State) :
    takeEdge k c rise s = { s with
      acu := { s.acu with
        pending := (takeEdge k c rise s).acu.pending
        latch := (takeEdge k c rise s).acu.latch
        live := (takeEdge k c rise s).acu.live }
      lc := (takeEdge k c rise s).lc } := by
  have hreport := takeEdge_report k c rise s
  have hacu := hreport.alarms
  rw [takeEdge_levels] at hacu
  rw [← hacu]
  exact hreport.blocks

/-! ## Counters (R169, R170) -/

theorem reachesTop_iff (k : Counter) (n : Nat) :
    reachesTop k n s = true ↔ s.acu.live.get k < 65535 ∧ 65535 ≤ s.acu.live.get k + n := by
  rw [reachesTop, Bool.and_eq_true, decide_eq_true_eq, decide_eq_true_eq]
  rfl

theorem addCount_get (k : Counter) (n : Nat) (s : State) :
    (addCount k n s).acu.live.get k = min 65535 (s.acu.live.get k + n) := get_set_same _ _ _

/-- A counter at its top stays there under every report: TX_ABANDONED saturates, and no report counts in another. -/
theorem occur_at_top {j : Counter} (h : s.acu.live.get j = 65535) (k : Cond) (c : Col) :
    (occur k c s).acu.live.get j = 65535 := by
  by_cases hj : j = .txAbandoned
  · subst hj
    have hfull {t : State} (ht : t.acu.live.get .txAbandoned = 65535) :
        (addCount .txAbandoned 1 t).acu.live.get .txAbandoned = 65535 := by
      rw [addCount_get, ht]
      rfl
    have hclosed : ReportClosed fun t => t.acu.live.get .txAbandoned = 65535 := ⟨hfull, fun _ _ => id, fun _ => id⟩
    exact hclosed.occur k c h
  · exact (occur_counter hj k c s).trans h

/-- A count adds to its counter, TX_ABANDONED included, and saturates (R169). -/
theorem count_get (k : Counter) (n : Nat) (s : State) : (count k n s).acu.live.get k = min 65535 (s.acu.live.get k + n) := by
  have hadd := addCount_get k n s
  unfold count
  split
  · obtain ⟨-, htop⟩ := (reachesTop_iff k n).1 ‹_›
    have hfull : min 65535 (s.acu.live.get k + n) = 65535 := Nat.min_eq_left htop
    rw [hfull] at hadd ⊢
    exact occur_at_top hadd _ _
  · exact hadd

theorem count_other {j k : Counter} (hne : j ≠ k) (htx : j ≠ .txAbandoned) (n : Nat) (s : State) :
    (count k n s).acu.live.get j = s.acu.live.get j := by
  have hadd : (addCount k n s).acu.live.get j = s.acu.live.get j := get_set_ne hne _ _
  unfold count
  split
  · exact (occur_counter htx _ _ _).trans hadd
  · exact hadd

theorem count_levels (k : Counter) (n : Nat) (s : State) : (count k n s).acu.levels = s.acu.levels := by
  unfold count
  split
  · exact occur_levels _ _ _
  · rfl

/-- A count that brings its counter to the top from below leaves COUNTER_FULL pending, unless it is masked (R170). -/
theorem count_sets_counterFull {k : Counter} {n : Nat} (h : reachesTop k n s = true) (hrun : s.inRun = true)
    (hmask : s.cfg.masked.getLsbD 5 = false) : (count k n s).acu.pending.getLsbD 5 = true := by
  rw [count, if_pos h]
  exact occur_sets (k := .counterFull) (c := 0) hrun hmask

end

/-! ## The statement: O15 -/

/-- What becomes of an edge that newly sets its flag: the flag and the stamp, then the ALARM by the case of its offer. -/
theorem takeEdge_announces {k : Cond} {c : Col} {rise : Bool} {s : State} (h : newlySets s k c rise = true) :
    let p := k.position c
    let t := takeEdge k c rise s
    s.acu.pending ||| 1#32 <<< p ||| t.acu.pending = t.acu.pending ∧
    t.acu.latch = (if s.acu.pending = 0 then some s.tu.clock else s.acu.latch) ∧
    (s.cfg.ownAddress = 0 ∨ (∃ g ∈ s.lc.queue, g.kind = .alarm) → t = setPending k c s) ∧
    (s.cfg.ownAddress ≠ 0 → (∀ g ∈ s.lc.queue, g.kind ≠ .alarm) → s.lc.queue.length < 8 →
      t = (setPending k c s).setLc (headTakesAccess (putFrame alarmFrame s.lc))) := by
  intro p t
  have ht : t = announce (setPending k c s) := if_pos h
  rw [ht]
  refine ⟨(announce_report (setPending k c s)).grows, announce_latch (setPending_ne_zero k c s), ?_, fun hown hnone hroom => ?_⟩
  · rintro (hown | halarm)
    · exact announce_refused hown
    · exact announce_queued ((queued_iff .alarm).2 halarm)
  · refine announce_placed hown (Bool.eq_false_iff.2 fun hq => ?_) hroom
    obtain ⟨g, hg, hkind⟩ := (queued_iff .alarm).1 hq
    exact hnone g hg hkind

/-- Settles O15: the cases of a report, of an edge and of the offer of its ALARM; and a count, which is COUNTER_FULL's report when it
reaches the top. -/
theorem edgesAnnounceAndCountersSaturate : Obligations.EdgesAnnounceAndCountersSaturate := by
  refine ⟨fun k c s hrun => ?_, fun k c s hrun => ?_, fun k c rise s hrun => ?_, fun k n s => ?_⟩
  · simp [raise, lower, occur, hrun]
  · intro p high
    have hlevel : s.level k c = high := rfl
    refine ⟨fun hhigh => ?_, fun hlow => ?_, fun hlow => ?_, fun hhigh => ?_, if_pos hrun⟩
    · simp [raise, hlevel, hhigh]
    · simp [lower, hlevel, hlow]
    · simp only [raise, hrun, hlevel, hlow]
      rfl
    · simp only [lower, hrun, hlevel, hhigh]
      rfl
  · intro p newly t
    refine ⟨fun hnot => if_neg (by rw [show newlySets s k c rise = false from hnot]; decide), fun hnew => ?_⟩
    obtain ⟨hgrows, hlatch, hmet, hplaced⟩ := takeEdge_announces (k := k) (c := c) (rise := rise) (s := s) hnew
    refine ⟨takeEdge_eq_update k c rise s, hgrows, hlatch, fun hcase => ?_, fun hown hnone hroom => ?_⟩
    · simp only [t, hmet hcase]
      exact ⟨rfl, rfl, rfl⟩
    · simp only [t, hplaced hown hnone hroom]
      refine ⟨rfl, rfl, ?_⟩
      rw [State.setLc_lc, headTakesAccess_eq]
      exact insertFrame_eq _ _
  · intro t before
    refine ⟨count_get k n s, fun j hne htx => count_other hne htx n s, count_levels k n s, ?_, (count_report k n s).blocks,
      fun hnot => ?_, fun hbelow htop hr hmask => count_sets_counterFull ((reachesTop_iff k n).2 ⟨hbelow, htop⟩) hr hmask⟩
    · rw [(count_report k n s).alarms]
    · have hshort : t = addCount k n s := if_neg fun htop => by
        obtain ⟨hbelow, hreach⟩ := (reachesTop_iff k n).1 htop
        omega
      rw [hshort]
      rfl

end Sys2Proof.AlarmProofs
end

section
/-! SUPPORT. The proofs of chapter 10, continued: the queries of the station's own state (R173 to R178) and SNAPSHOT (R171, R180). -/

namespace Sys2Proof.AlarmProofs

open Sys2Proof.Machine Sys2Proof.Safety Sys2Proof.StoreProofs Sys2Proof.PullProofs Sys2Proof.QueryProofs

/-! ## The bytes of the replies (Table 12-3) -/

theorem latchBytes_eq (s : State) : latchBytes s =
    match s.acu.latch with
    | some clock => 1 :: be32 clock.toNat
    | none => [0, 0, 0, 0, 0] := by
  unfold latchBytes
  cases s.acu.latch <;> rfl

/-- The twenty counters stand in the order of R169's table, two bytes each. -/
theorem counters_bytes_eq (k : Counters) : k.bytes =
    [k.cardsPresented, k.grants, k.refusals, k.redirects, k.framesRxOk, k.framesRxBad, k.framesTx, k.collisions, k.txAbandoned,
      k.repliesLate, k.beaconsMissed, k.echoFails, k.logLost, k.storeWrites, k.revocationsApplied, k.claimLapsed,
      k.deposits.get 0, k.deposits.get 1, k.deposits.get 2, k.deposits.get 3].flatMap be16 := by
  simp only [List.flatMap_cons]
  unfold Counters.bytes
  simp only [List.append_assoc]
  rw [List.flatMap_nil, List.append_nil]

theorem flagAt_testBit (i n : Nat) : flagAt i (n.testBit i) = n / 2 ^ i % 2 * 2 ^ i := by
  rw [← Nat.toNat_testBit, flagAt]
  cases n.testBit i <;> simp

/-- The five low bits of a number, one by one. -/
theorem mod_32_eq_flags (n : Nat) : n % 32 = flagAt 0 (n.testBit 0) + flagAt 1 (n.testBit 1) + flagAt 2 (n.testBit 2) +
    flagAt 3 (n.testBit 3) + flagAt 4 (n.testBit 4) := by
  simp only [flagAt_testBit]
  omega

/-- The level conditions of a container stand at five positions in a row (12.1). -/
theorem levelBits_eq (s : State) (c : Col) : levelBits s c =
    flagAt 0 (s.level .echoFail c) + flagAt 1 (s.level .lockFault c) + flagAt 2 (s.level .drumHeld c) +
      flagAt 3 (s.level .containerMissing c) + flagAt 4 (s.level .unclaimedLift c) := by
  rw [levelBits, mod_32_eq_flags]
  simp only [BitVec.testBit_toNat, BitVec.getLsbD_ushiftRight]
  rfl

theorem neighbourBytes_eq (n : Neighbour) : neighbourBytes n =
    [BitVec.ofNat 8 n.address, n.lastSeq] ++ be16 n.age ++
      [BitVec.ofNat 8 (n.margin.val + flagAt 3 n.marginal + flagAt 4 n.alarms), (n.rank.map (BitVec.ofNat 8)).getD 0xFF] ++
      be32 n.mark ++ [BitVec.ofNat 8 n.hops, BitVec.ofNat 8 n.summaries.length] ++
      n.summaries.flatMap neighbourSummaryBytes := by
  unfold neighbourBytes
  cases n.rank <;> rfl

/-! ## The statements: O52 and O54 -/

/-- Settles O52: each query reaches its subject, whose content is read off field by field. -/
theorem queriesReportTheStation : Obligations.QueriesReportTheStation := by
  intro s d f hf hsource hdest v n8 bit inUse round positions latch container k from' entries entry status done misfit
  have hexec (k : Subject) : withQuery k f (s.advance d) = takeSubject k { f with payload := k.code :: f.payload } f.payload v :=
    withQuery_reaches hf hsource hdest k d
  have hanswer (k : Subject) (h : f.payload.length = k.argBytes) : withQuery k f (s.advance d) =
      answerSubject { f with payload := k.code :: f.payload } k f.payload v := (hexec k).trans (takeSubject_fit h _ v)
  have hmisfit (k : Subject) (h : f.payload.length ≠ k.argBytes) : withQuery k f (s.advance d) = misfit k.code :=
    (hexec k).trans (takeSubject_misfit h _ v)
  refine ⟨fun hempty => ?_, fun hlen => ?_, fun hsome => ?_, fun hlen => congrArg _ (hmisfit .neighbours hlen)⟩
  · have hlen : f.payload.length = 0 := List.length_eq_zero_iff.2 hempty
    refine ⟨congrArg _ ((hanswer .alarms hlen).trans ?_), congrArg _ ((hanswer .counters hlen).trans ?_),
      congrArg _ ((hanswer .containers hlen).trans ?_), congrArg _ ((hanswer .status hlen).trans ?_)⟩
    · simp only [answerSubject, alarmsContent, latchBytes_eq]
      rfl
    · simp only [answerSubject, countersContent, counters_bytes_eq, stampBytes, ← List.append_assoc]
      rfl
    · have hcontainer : container = containerBytes v := by
        funext c
        simp only [containerBytes, levelBits_eq]
        rfl
      rw [hcontainer]
      rfl
    · rfl
  · refine congrArg _ ((hanswer .neighbours hlen).trans ?_)
    have hentry : entry = neighbourBytes := by
      funext n
      rw [neighbourBytes_eq]
      rfl
    rw [hentry]
    rfl
  · have hlen : f.payload.length ≠ 0 := fun h => hsome (List.length_eq_zero_iff.1 h)
    exact ⟨congrArg _ (hmisfit .alarms hlen), congrArg _ (hmisfit .counters hlen), congrArg _ (hmisfit .containers hlen),
      congrArg _ (hmisfit .status hlen)⟩

/-- A snapshot at request: the counters and the stamp move, and in AUTO the report timer restarts (R171, R172). -/
theorem requestedSnapshot_eq (s : State) : requestedSnapshot s = { s with acu := { s.acu with
    copies := s.acu.live, live := .zero, stampClock := s.tu.clock, stampHops := s.tu.hops
    report := if s.cfg.auto then .start else s.acu.report } } := by
  simp only [requestedSnapshot]
  split <;> rfl

/-- Settles O54: the reply carries the stamp that the snapshot has just set. -/
theorem snapshotsMoveTheCounters : Obligations.SnapshotsMoveTheCounters := by
  intro s d f hf hsource hdest v
  have hexec : exec (.snapshot d f) s = .next (takeSnapshot f v) :=
    congrArg _ (withFrame_directed hf hdest (by rw [sourceClass_gateway hsource]; rfl) rfl d takeSnapshot)
  refine ⟨fun hempty => ?_, fun hsome => ?_⟩
  · have hlen : f.payload.length = 0 := List.length_eq_zero_iff.2 hempty
    rw [hexec, takeSnapshot, if_pos hlen, requestedSnapshot_eq]
    rfl
  · rw [hexec, takeSnapshot, if_neg fun h => hsome (List.length_eq_zero_iff.1 h)]

end Sys2Proof.AlarmProofs
end

section
/-! SUPPORT. The proofs of chapter 10, continued: RESTART, the start that follows its reply, and the report timer (R172, R181). -/

namespace Sys2Proof.AlarmProofs

open Sys2Proof.Machine Sys2Proof.Safety Sys2Proof.FillProofs Sys2Proof.StoreProofs Sys2Proof.PullProofs

/-! ## A reply that is dropped (R116) -/

/-- Of a choice among frames, none is left exactly when there was none to choose from. -/
theorem foldl_olderFrame_eq_none (l : List TxFrame) (o : Option TxFrame) :
    l.foldl olderFrame o = none ↔ l = [] ∧ o = none := by
  induction l generalizing o with
  | nil => simp
  | cons g l ih =>
    have hchosen : olderFrame o g ≠ none := by
      unfold olderFrame
      split
      · simp
      · split <;> simp
    simp [ih, hchosen]

/-- Nothing is displaced exactly when every class-2 frame is being sent (R116). -/
theorem displaceable_eq_none_iff (x : Lc) :
    displaceable x = none ↔ ∀ h ∈ x.queue, ¬(h.cls = 2 ∧ ¬(x.phase = .sending ∧ x.access = some h.arrival)) := by
  rw [displaceable, foldl_olderFrame_eq_none, List.filter_eq_nil_iff]
  simp [Lc.isSending]

/-- A frame of class 0 or 1 is dropped exactly when the queue is full and nothing can be displaced (R116). -/
theorem placementOf_eq_dropped_iff {f : TxFrame} {s : State} (hown : s.cfg.ownAddress ≠ 0) (hcls : f.cls < 2) :
    placementOf f s = .dropped ↔ 8 ≤ s.lc.queue.length ∧ displaceable s.lc = none := by
  rw [placementOf, if_neg hown, if_pos hcls]
  by_cases hroom : s.lc.queue.length < 8
  · simp [hroom, Nat.not_le.2 hroom]
  · cases hd : displaceable s.lc <;> simp [hroom, Nat.not_lt.1 hroom]

/-! ## The start that follows (R183) -/

/-- What a reset keeps does not depend on timers, so time that passes as it begins makes no difference. -/
theorem resetBlocks_advance (s : State) (d : Nat) : resetBlocks (s.advance d) = resetBlocks s := by
  have hkind : (s.advance d).cl.startKind = s.cl.startKind := by simp
  have hcold : coldBlocks (s.advance d) = coldBlocks s := by
    unfold State.advance
    split <;> rfl
  have hwarm : warmBlocks (s.advance d) = warmBlocks s := by
    unfold State.advance
    split <;> rfl
  rw [resetBlocks, resetBlocks, hkind, hcold, hwarm]

/-- A reset begins STARTING, and leaves power and RESET_N as they are. -/
theorem resetBlocks_cl (s : State) : (resetBlocks s).cl.phase = .starting ∧ (resetBlocks s).cl.powered = s.cl.powered ∧
    (resetBlocks s).cl.resetLow = s.cl.resetLow := by
  unfold resetBlocks
  split <;> exact ⟨rfl, rfl, rfl⟩

/-- RESET_N driven low and back high makes the start that a departed RESTART reply makes, whatever time it takes (R181, R183). -/
theorem resetPulse_eq {s : State} (hpowered : s.cl.powered = true) (hhigh : s.cl.resetLow = false) (d e : Nat) :
    ∃ a, exec (.resetNLow d) s = .next a ∧ exec (.resetNHigh e) a = .next (promisedRestart s) := by
  obtain ⟨hphase, hpower, hlow⟩ := resetBlocks_cl s
  rw [hpowered] at hpower
  rw [hhigh] at hlow
  let a := (resetBlocks s).setCl { (resetBlocks s).cl with resetLow := true }
  have hcl : (s.advance d).cl = s.cl := (advance_frame s d).1
  have hheld : exec (.resetNLow d) s = .next a := by
    simp only [exec, execResetNLow, driveResetLow, hcl, hhigh, hpowered, resetBlocks_advance]
    rfl
  have hstopped : a.inRun = false := by simp [a, State.inRun, hphase]
  have hback : a.setCl { a.cl with resetLow := false } = resetBlocks s := by
    have hsame : ({ (resetBlocks s).cl with resetLow := false } : Cl) = (resetBlocks s).cl := by rw [← hlow]
    exact congrArg (State.setCl (resetBlocks s)) hsame
  refine ⟨a, hheld, ?_⟩
  simp only [exec, execResetNHigh, advance_of_not_inRun a e hstopped, releaseReset, hback, hpower]
  rfl

theorem powered_of_inRun {s : State} (h : s.inRun = true) : s.cl.powered = true := (Bool.and_eq_true_iff.1 h).1

theorem promiseRestart_placed {f : RxFrame} {s : State}
    (h : placementOf (replyFrame .reply f restartPayload true) { s with restartPromised := true } ≠ .dropped) :
    promiseRestart f s = offer (replyFrame .reply f restartPayload true) { s with restartPromised := true } := by
  simp only [promiseRestart]
  split
  · exact absurd ‹_› h
  all_goals rfl

/-- A reply that is dropped has departed (R181). -/
theorem promiseRestart_dropped {f : RxFrame} {s : State}
    (h : placementOf (replyFrame .reply f restartPayload true) { s with restartPromised := true } = .dropped) :
    promiseRestart f s =
      promisedRestart (offer (replyFrame .reply f restartPayload true) { s with restartPromised := true }) := by
  simp only [promiseRestart, h]
  rfl

/-! ## The statement: O55 -/

/-- A RESTART from a gateway reaches QR once time has passed. -/
theorem restart_reaches {f : RxFrame} {s : State} (hf : hears s f 0) (hsource : fromGateway f) (hdest : isDirected s f) (d : Nat) :
    exec (.restart d f) s = .next (takeRestart f (heard f (s.advance d))) :=
  congrArg _ (withFrame_directed hf hdest (by rw [sourceClass_gateway hsource]; rfl) rfl d takeRestart)

/-- Settles O55: the reply is placed, or its drop is a departure, at which the station starts as RESET_N would make it start; and the
report timer makes the snapshot that a request makes. -/
theorem restartsFollowTheirReply : Obligations.RestartsFollowTheirReply := by
  refine ⟨fun s d f hf hsource hdest hhigh => ?_, fun s d hrun => ?_⟩
  · intro v waits dropped w
    have hexec : exec (.restart d f) s = .next (takeRestart f v) := restart_reaches hf hsource hdest d
    have hcl : v.cl = s.cl := (heard_frame f (s.advance d)).1.trans (advance_frame s d).1
    have hown : v.cfg.ownAddress ≠ 0 := by
      rw [State.cfg, hcl]
      exact hdest.1
    have hdropped : placementOf (replyFrame .reply f restartPayload true) { v with restartPromised := true } = .dropped ↔ dropped :=
      (placementOf_eq_dropped_iff hown Nat.two_pos).trans (and_congr_right fun _ => displaceable_eq_none_iff v.lc)
    refine ⟨fun hsome => ?_, fun hempty hpromised => ?_, fun hempty hfirst hplaced => ?_, fun hempty hfirst hdrop => ?_⟩
    · rw [hexec, takeRestart, if_neg fun h => hsome (List.length_eq_zero_iff.1 h)]
    · rw [hexec, takeRestart, if_pos (by rw [hempty]; rfl), if_pos hpromised]
      rfl
    · have hlen : f.payload.length = 0 := List.length_eq_zero_iff.2 hempty
      rw [hexec, takeRestart, if_pos hlen, if_neg (by rw [hfirst]; decide), promiseRestart_placed fun h => hplaced (hdropped.1 h)]
      rfl
    · have hlen : f.payload.length = 0 := List.length_eq_zero_iff.2 hempty
      have hw : w.cl = s.cl := (offer_frame _ _).1.trans hcl
      obtain ⟨a, hlow, hback⟩ := resetPulse_eq (s := w) (by rw [hw]; exact powered_of_inRun hf.1) (by rw [hw]; exact hhigh) 0 0
      refine ⟨a, hlow, ?_⟩
      rw [hback, hexec, takeRestart, if_pos hlen, if_neg (by rw [hfirst]; decide), promiseRestart_dropped (hdropped.2 hdrop)]
      rfl
  · intro u
    have hu : u.inRun = true ∧ u.cfg = s.cfg := ⟨(advance_phase s d).1.trans hrun, (advance_phase s d).2.2.1⟩
    have hexec : exec (.reportTimerExpiry d) s =
        .next (if u.inRun && u.cfg.auto && u.acu.report.running then requestedSnapshot u else u) := rfl
    refine ⟨fun hauto htimer => ?_, fun hnot => ?_⟩
    · have htaken : (u.inRun && u.cfg.auto && u.acu.report.running) = true := by rw [hu.1, hu.2, hauto, htimer]; rfl
      rw [hexec, if_pos htaken, requestedSnapshot_eq, if_pos (by rw [hu.2, hauto])]
      rfl
    · have hignored : (u.inRun && u.cfg.auto && u.acu.report.running) = false := by
        rcases hnot with hmanual | hstopped
        · rw [hu.2, hmanual, Bool.and_false, Bool.false_and]
        · rw [hstopped, Bool.and_false]
      rw [hexec, if_neg (by rw [hignored]; decide)]

end Sys2Proof.AlarmProofs
end
